-- ==== Sys2Proof/Word.lean ====
section
/-! DEFINITION. The words of the VLS-824: the byte of a line and of the store, the 16-bit and 32-bit quantities of
00_scope.md ("Part time", "Feeder sample time"). Only what the manual treats as bits, or lets wrap, is a bit vector. -/

namespace Sys2Proof

/-- A byte on a line or in the store. -/
abbrev Byte := BitVec 8

/-- A tick of a measuring unit: 16 bits, 0.25 ms, wrapping (00_scope, "Feeder sample time"). -/
abbrev Tick := BitVec 16

/-- Part time: the part's millisecond count, 32 bits, wrapping (00_scope, "Part time"). -/
abbrev PartTime := BitVec 32

/-- The 16-bit check word of a telegram or of the store image (R196). -/
abbrev CheckWord := BitVec 16

/-- A section's place in the eight: index `i` stands for section `i + 1`. -/
abbrev SecNo := Fin 8

/-- A point's place in the twenty-four: index `i` stands for point `i + 1`. -/
abbrev PointNo := Fin 24

end Sys2Proof
end

