-- ==== Sys2Proof/Syntax.lean ====
section
/-! DEFINITION. The commands of the VLS-824: one constructor of `Instr` for each row of spec/opcode_table.json, with the
operands its rule names. A row that names a delivery or a request carries what the traffic path hands over (R139, R145);
a row that names an event of a port carries what the line brings. -/

namespace Sys2Proof

/-- The two line ports (00_scope, "The part in its substation"). -/
inductive Line where
  | field
  | control
  deriving DecidableEq, Repr

/-- The two measuring source roles of a section (R49). -/
inductive SourceRole where
  | primary
  | secondary
  deriving DecidableEq, Repr

/-- The two contact roles of a point (R122). -/
inductive ContactRole where
  | approach
  | clear
  deriving DecidableEq, Repr

/-- The nine breaker objects: 0 is the station, 1 to 8 the sections (00_scope, "Numbering"). -/
inductive BreakerObj where
  | station
  | sec (i : SecNo)
  deriving DecidableEq, Repr

/-- A telegram without its SYNC byte and check word: chapter 12, "Framing". LEN is the length of the body. -/
structure Telegram where
  dst  : Byte
  src  : Byte
  kind : Byte
  body : List Byte
  deriving DecidableEq, Repr

/-- Who sent a request and how its answer is marked: the line it arrived on, its source station and its tag
(R183, R184). -/
structure Req where
  line : Line
  src  : Byte
  tag  : Byte
  deriving DecidableEq, Repr

/-- The commands: one constructor per row of the table, in the table's order. -/
inductive Instr where
  | powerOn
  | supplyDip
  | resetLineAsserted
  | resetLineReleased
  /-- the whole frame, SYNC to check word, of which the receiver may already hold a first part -/
  | telegramReceived (line : Line) (frame : List Byte)
  /-- a LINK_OFFER telegram with a correct check word -/
  | linkOffer (line : Line) (dst src : Byte) (body : List Byte)
  /-- the length of the gap in byte times -/
  | idleGap (line : Line) (byteTimes : Nat)
  | babbleCutoff (line : Line)
  | transmitTelegram (line : Line)
  | ackOfferEnd (line : Line)
  | offerExpiry (line : Line)
  | partnerExpiry (line : Line)
  | quietExpiry (line : Line)
  | takeTelegram (line : Line)
  | sample (i : SecNo) (role : SourceRole) (body : List Byte)
  | breakerState (obj : BreakerObj) (body : List Byte)
  | lineTestResult (obj : BreakerObj) (body : List Byte)
  | pointPosition (p : PointNo) (body : List Byte)
  | contact (p : PointNo) (role : ContactRole) (body : List Byte)
  | vehicleStatus (body : List Byte)
  | routeRequest (body : List Byte)
  | timeMark (line : Line) (src : Byte) (body : List Byte)
  /-- a telegram of the Control line decided by the binding entry -/
  | supervisedOrder (entry : Fin 64) (tg : Telegram)
  | sectionClose (req : Req) (sec : Byte)
  | sectionOpen (req : Req) (sec kind : Byte)
  | sectionReset (req : Req) (sec : Byte)
  | sectionIsolate (req : Req) (sec force : Byte)
  | sectionRelease (req : Req) (sec : Byte)
  | stationClose (req : Req)
  | stationOpen (req : Req) (kind : Byte)
  | stationReset (req : Req)
  | pointSet (req : Req) (point leg : Byte)
  | pointLock (req : Req) (point leg : Byte)
  | pointUnlock (req : Req) (point : Byte)
  | pointClear (req : Req) (point : Byte)
  | vehicleForget (req : Req) (vehicle : BitVec 16)
  | readState (req : Req) (kind : Byte) (number : BitVec 16) (part : Byte)
  | readEntry (req : Req) (table index : Byte)
  | writeEntry (req : Req) (table index : Byte) (entry : List Byte)
  | entryActive (req : Req) (table index flag : Byte)
  | setMode (req : Req) (mode : Byte)
  | readCounters (req : Req) (group : Byte)
  | clearCounters (req : Req)
  | readIncident (req : Req) (selector : Byte) (number : BitVec 16) (part piece : Byte)
  | clearIncidents (req : Req)
  | storeRead (req : Req) (address : BitVec 16) (count : Byte)
  | storeWrite (req : Req) (address : BitVec 16) (bytes : List Byte)
  | storeSave (req : Req)
  | storeReload (req : Req)
  | restartCold (req : Req)
  | restartWarm (req : Req)
  | storeTransactionAnswer
  | transactionExpiry
  | closeConfirmTimeExpiry (i : SecNo)
  | sectionOpenExpiry (i : SecNo)
  | sectionTripExpiry (i : SecNo)
  | stationCloseExpiry
  | stationOpenExpiry
  | backupTripExpiry
  | staleExpiry (i : SecNo) (role : SourceRole)
  | blindExpiry (i : SecNo)
  | deadTimeExpiry (i : SecNo)
  | holdExpiry (i : SecNo)
  | lineTestExpiry (i : SecNo)
  | reclaimExpiry (i : SecNo)
  | windowExpiry (incident : Nat)
  | admissionExpiry (vehicle : Nat)
  | silenceExpiry (vehicle : Nat)
  | lifeExpiry (p : PointNo) (vehicle : Nat)
  | throwExpiry (p : PointNo)
  | controlSilenceExpiry
  | dayTimeRollover
  | byteArrives (line : Line) (byte : Byte)
  | supplyFailure
  | transmitterFree (line : Line)
  deriving DecidableEq, Repr

end Sys2Proof
end

