-- ==== Sys2Proof/Decode.lean ====
section
/-! DEFINITION. The decoder of a block whose table gives no row a word: spec/opcode_table.json carries an empty "fields"
list and no fixed bits for each of its 75 rows, so no word spells a command (log 25). What the lines bring is read by
Machine/Operands.lean. -/

namespace Sys2Proof

/-- The command that a word spells by the table's bits: none, since no row of the table has bits (log 25). -/
def decodeTableWord (_nbits _w : Nat) : Option Instr := none

end Sys2Proof
end

