-- ==== Sys2Proof/Config.lean ====
section
/-! DEFINITION. The free values of the model: what the manual leaves open after a step that goes on. Each is an opaque
constant without a body, so that a claim holds whatever it is. The fixed times and limits of the rules are in
Machine/Defaults.lean. -/

namespace Sys2Proof.Config

/-- R191, R179: whether byte `k` of the run of a write transaction that timed out, or was interrupted by a cold restart,
has been written. The first argument is the model's own counter, so that each such transaction has a choice of its own
(log 7). -/
opaque writtenOfRun : Nat → Nat → Bool

/-- R82, R196: the byte that stands for an absent next shot in a READ_STATE reply; chapter 12 gives no code (log 9). -/
opaque absentNextShot : Byte

/-- R66, R82: the byte that stands for the shot limit of a section with program 0, which "has no limit" (log 9). -/
opaque noShotLimit : Byte

/-- R152, R184: the code byte echoed in the answer to a request whose body holds no code byte (log 9). -/
opaque noCode : Byte

end Sys2Proof.Config
end

