-- ==== Sys2Proof/Machine/Types.lean ====
section
/-! DEFINITION. The records the blocks of the VLS-824 keep, one structure per record table of the manual. Everything is
plain data. A state, reason or kind whose code chapter 12 does not give lists its values in the order of the table that
defines it, since R196 numbers it in that order. -/

namespace Sys2Proof.Machine

open Sys2Proof

/-- A running expiry: it is due when `span` milliseconds have passed since `start` (00_scope, "Part time"). -/
structure Expiry where
  start : PartTime
  span  : Nat
  deriving DecidableEq, Repr

/-! ### Sections and breakers (01) -/

/-- R1: section states. -/
inductive SecState where
  | dead | closing | live | opening | tripping | waiting | testing | lockedOut | isolated
  deriving DecidableEq, Repr

/-- R2: section reasons. -/
inductive SecReason where
  | restart | commandedClose | shot | reclosed | localClose | stationClosed | reset | modeEntry | commandedOpen
  | commandedTrip | openFailed | localOpen | stationOpen | closeFailed | released | instant | delta | thermal | blind
  | commanded | isolated | isolatedForced | shotsExhausted | noProgram | breakerFailure | blindTrip
  | vehicleHoldExpired | modeChange
  deriving DecidableEq, Repr

/-- R1: a recorded breaker position. -/
inductive Position where
  | opened | closed | unknown
  deriving DecidableEq, Repr

/-- R3: what a BREAKER_STATE reports. -/
inductive Report where
  | opened | closed | trippedLocal | failed
  deriving DecidableEq, Repr

/-- R1, R5: the kinds of breaker order. -/
inductive OrderKind where
  | close | opening | trip
  deriving DecidableEq, Repr

/-- R1, R19: who a pending order comes from. -/
inductive Origin where
  | command | reclose | protection | lock | backup
  deriving DecidableEq, Repr

/-- R1, R65, R83: trip kinds. -/
inductive TripKind where
  | instant | delta | thermal | localTrip | blind | commanded
  deriving DecidableEq, Repr

/-- R1, R19: a pending breaker order. -/
structure PendingOrder where
  order    : OrderKind
  origin   : Origin
  kind     : Option TripKind
  usesLine : Bool
  expiry   : Expiry
  deriving DecidableEq, Repr

/-- R1: the section controller's record of a section (its entry is in the tables). -/
structure SectionCtl where
  state    : SecState
  reason   : SecReason
  position : Position
  pending  : Option PendingOrder
  former   : Option (SecState × SecReason)
  incident : Option Nat
  tripLine : Bool
  deriving DecidableEq, Repr

/-- R19: station states. -/
inductive StState where
  | closed | opened | closing | tripping | failed
  deriving DecidableEq, Repr

/-- R19: station reasons. -/
inductive StReason where
  | restart | localClose | localOpen | localTrip | commandedClose | commandedOpen | commandedTrip | closeFailed
  | openFailed | backupTrip | failed | reset
  deriving DecidableEq, Repr

/-- R19: the station record (its entry is in the tables). -/
structure Station where
  state    : StState
  reason   : StReason
  position : Position
  pending  : Option PendingOrder
  tripLine : Bool
  deriving DecidableEq, Repr

/-! ### Feeder measurement and sources (02, 03) -/

/-- R27: the feeder computation record. `prev` is I_prev with t_prev, present together. `aboveHalf` is the side of the
half limit last told to the reclose unit (R35; log 22). -/
structure Feeder where
  prev        : Option (Int × Tick)
  rising      : Bool
  iBase       : Int
  elapsed     : Nat
  h           : Nat
  unexpRun    : Nat
  unexpRaised : Bool
  revRun      : Nat
  revRaised   : Bool
  lastWould   : Option PartTime
  dup         : Nat
  gap         : Nat
  saturated   : Nat
  malformed   : Nat
  aboveHalf   : Bool
  deriving DecidableEq, Repr

/-- R49: a source record. `last` is the last tick with the last arrival, present together. -/
structure Source where
  last  : Option (Tick × PartTime)
  run   : Nat
  fresh : Bool
  stale : Option Expiry
  deriving DecidableEq, Repr

/-- R52: selector states. -/
inductive SelState where
  | usingPrimary | usingSecondary | blind
  deriving DecidableEq, Repr

/-- R52: the selector record. -/
structure Selector where
  state       : SelState
  blindSince  : Option PartTime
  blindExpiry : Option Expiry
  overdue     : Bool
  changes     : Nat
  blinds      : Nat
  deriving DecidableEq, Repr

/-- R37: the captured values of a trip decision or an alarm. `rise` is the rise with the elapsed ticks, present
together. -/
structure Captured where
  current   : Option Int
  rise      : Option (Int × Nat)
  h         : Nat
  saturated : Bool
  deriving DecidableEq, Repr

/-- R37, R59: a trip decision. -/
structure Decision where
  kind     : TripKind
  captured : Captured
  deriving DecidableEq, Repr

/-! ### Reclosing (04) -/

/-- R65: phases. -/
inductive Phase where
  | idle | gating | testing | closing | tripWait | reclaim
  deriving DecidableEq, Repr

/-- R68: the six gate flags. -/
structure Gates where
  deadTime : Bool
  window   : Bool
  vehicles : Bool
  thermal  : Bool
  source   : Bool
  station  : Bool
  deriving DecidableEq, Repr

/-- R68: the six gates by name. -/
inductive Gate where
  | deadTime | window | vehicles | thermal | source | station
  deriving DecidableEq, Repr

/-- R65: the last line test; 65535 is NO_RESULT (R73). -/
structure LineTest where
  result : BitVec 16
  arrived : PartTime
  judged : Bool
  deriving DecidableEq, Repr

/-- R65: the reclose record. -/
structure Reclose where
  shots       : Nat
  phase       : Phase
  nextShot    : Option Nat
  tripKind    : Option TripKind
  dead        : Option Expiry
  holdBase    : Option PartTime
  hold        : Option Expiry
  holdOverdue : Bool
  lineTest    : Option Expiry
  reclaim     : Option Expiry
  gates       : Gates
  lastTest    : Option LineTest
  deriving DecidableEq, Repr

/-- All the blocks keep of one section. -/
structure Sec where
  ctl  : SectionCtl
  feed : Feeder
  prim : Source
  seco : Source
  sel  : Selector
  rcl  : Reclose
  deriving DecidableEq, Repr

/-! ### Incidents (05) -/

/-- R83: incident kinds. -/
inductive IncKind where
  | tripInstant | tripDelta | tripThermal | tripLocal | tripBlind | tripCommanded | breakerFailure | stationFailure
  | wouldTrip | unexplainedCurrent | reverseUnexplained | blindSection | pointFailure
  deriving DecidableEq, Repr

/-- R83: the object of a record. -/
inductive IncObject where
  | sec (i : SecNo)
  | station
  | point (p : PointNo)
  deriving DecidableEq, Repr

/-- R83: causes of a BREAKER_FAILURE. -/
inductive FailCause where
  | tripExpiry | failedReport | openExpiry
  deriving DecidableEq, Repr

/-- R117: point failure reasons. -/
inductive PointFailReason where
  | timeout | supplyLost | faultReported
  deriving DecidableEq, Repr

/-- R83: the detail of a record. -/
inductive Detail where
  | decision (k : TripKind)
  | cause (c : FailCause)
  | point (r : PointFailReason)
  deriving DecidableEq, Repr

/-- R83: incident states. -/
inductive IncState where
  | opened | held | closed
  deriving DecidableEq, Repr

/-- R83: outcomes. -/
inductive IncOutcome where
  | reclosed | lockedOut | cancelled | stationOpen | recorded
  deriving DecidableEq, Repr

/-- R83, R92: outcomes of a shot. -/
inductive ShotOutcome where
  | closedOk | testFailed | closeFailed | retripped
  deriving DecidableEq, Repr

/-- A moment as a record stamps it: part time, and day time where it is present (R83, R178). -/
structure Stamp where
  part : PartTime
  day  : Option Nat
  deriving DecidableEq, Repr

/-- R98: fault codes, in the order of R98. -/
inductive FaultCode where
  | insulation | collectorShort | dewired | traction | regenFault
  deriving DecidableEq, Repr

/-- R83, R90: an entry of the attributed-vehicle list. -/
structure Attributed where
  vehicle : Nat
  fault   : FaultCode
  located : Bool
  at_     : PartTime
  deriving DecidableEq, Repr

/-- R83: an incident record. -/
structure Incident where
  number    : Nat
  kind      : IncKind
  object    : IncObject
  detail    : Option Detail
  opened    : Stamp
  state     : IncState
  outcome   : Option IncOutcome
  closed    : Option Stamp
  window    : Option Expiry
  captured  : Option Captured
  tripCount : Nat
  lastTrip  : Option (TripKind × PartTime)
  shots     : List (Nat × ShotOutcome)
  vehicles  : List Attributed
  more      : Bool
  deriving DecidableEq, Repr

/-- R84: the incident list, oldest record first. -/
structure IncidentList where
  records   : List Incident
  next      : Nat
  evictions : Nat
  deriving DecidableEq, Repr

/-! ### Vehicles (06) -/

/-- R98: vehicle states. -/
inductive VehState where
  | running | regen | polesDown
  deriving DecidableEq, Repr

/-- R98: what set a vehicle's section last. -/
inductive LocSource where
  | marker | point
  deriving DecidableEq, Repr

/-- R98: a vehicle entry; `loc` is the section, absent for 0. -/
structure Vehicle where
  number      : Nat
  admitted    : Bool
  loc         : Option SecNo
  source      : LocSource
  state       : VehState
  faults      : List (FaultCode × PartTime)
  lastHeard   : PartTime
  admission   : Option Expiry
  silence     : Option Expiry
  attributed  : Nat
  lastPoint   : Option (PointNo × PartTime)
  obstruction : Option PointNo
  lastOrder   : Option (Nat × PartTime)
  deriving DecidableEq, Repr

/-- R99: the vehicle table with its counters; the entries stand in rising order of number. -/
structure VehicleTable where
  entries         : List Vehicle
  taken           : Nat
  badNumbers      : Nat
  malformed       : Nat
  provExpiries    : Nat
  replacements    : Nat
  tableFull       : Nat
  silenceRemovals : Nat
  orders          : Nat
  noGateway       : Nat
  lastFull        : Option PartTime
  refusals        : Nat
  deriving DecidableEq, Repr

/-- R115: why an entry is removed with a report. -/
inductive RemovalReason where
  | replaced | silence | forgotten
  deriving DecidableEq, Repr

/-! ### Points (07) -/

/-- The two legs of a point. -/
inductive Leg where
  | straight | diverging
  deriving DecidableEq, Repr

/-- R117: a recorded point position. -/
inductive PointPos where
  | straight | diverging | unknown
  deriving DecidableEq, Repr

/-- R119: a blade report other than FAULT. -/
inductive Blade where
  | straight | diverging | mid
  deriving DecidableEq, Repr

/-- R117: activities. -/
inductive Activity where
  | atRest | throwing | failed
  deriving DecidableEq, Repr

/-- R117: who a throw is made for. -/
inductive ThrowOrigin where
  | vehicle | control
  deriving DecidableEq, Repr

/-- R117, R129: a throw in progress. -/
structure Motion where
  leg    : Leg
  origin : ThrowOrigin
  expiry : Expiry
  deriving DecidableEq, Repr

/-- R117, R124: a queued route request. `granted` carries the grant time. -/
structure Request where
  vehicle : Nat
  leg     : Leg
  arrival : PartTime
  granted : Option PartTime
  life    : Expiry
  deriving DecidableEq, Repr

/-- R117: the counters of one point. -/
structure PointCounters where
  reports  : Nat
  passages : Nat
  queued   : Nat
  grants   : Nat
  refusals : Nat
  throws   : Nat
  failures : Nat
  deriving DecidableEq, Repr

/-- R117: the point record (its entry is in the tables). -/
structure Point where
  position    : PointPos
  candidate   : Option Blade
  activity    : Activity
  failure     : Option PointFailReason
  motion      : Option Motion
  occupancy   : Nat
  countError  : Bool
  lock        : Option Leg
  obstruction : Option Nat
  supplyLive  : Bool
  queue       : List Request
  counters    : PointCounters
  deriving DecidableEq, Repr

/-- R117: the supervisor-wide counters. -/
structure SupervisorCounters where
  malformed       : Nat
  droppedObserve  : Nat
  noGateway       : Nat
  roleMismatch    : Nat
  inactiveObjects : Nat
  deriving DecidableEq, Repr

/-- R128: route refusal reasons. -/
inductive RouteReason where
  | queueFull | outOfService | failed | obstructed | locked | positionLost | expired
  deriving DecidableEq, Repr

/-! ### Traffic path and configuration (08, 11) -/

/-- R141: dispositions. -/
inductive Disposition where
  | forward | consume | copy | supervise | discard
  deriving DecidableEq, Repr

/-- R141: object roles. -/
inductive Role where
  | source (r : SourceRole) (i : SecNo)
  | breaker (obj : BreakerObj)
  | motor (p : PointNo)
  | contact (r : ContactRole) (p : PointNo)
  | gateway
  deriving DecidableEq, Repr

/-- R141: the configuration fields of a binding entry; a compare field is its enable and its value. -/
structure Binding where
  active      : Bool
  line        : Bool × Line
  src         : Bool × Byte
  dst         : Bool × Byte
  kind        : Bool × Byte
  key         : Bool × Byte
  disposition : Disposition
  role        : Option Role
  rewrite     : Option Byte
  deriving DecidableEq, Repr

/-- R141: the counts of a binding entry. -/
structure BindCount where
  hits    : Nat
  rejects : Nat
  deriving DecidableEq, Repr

/-- R1: a section entry; BlindTime in units of 100 ms (R58). -/
structure SectionEntry where
  active    : Bool
  breaker   : Byte
  set       : Fin 4
  program   : Option (Fin 4)
  secondary : Bool
  blindTrip : Bool
  blindTime : Nat
  deriving DecidableEq, Repr

/-- R19: the station entry. -/
structure StationEntry where
  active  : Bool
  breaker : Byte
  deriving DecidableEq, Repr

/-- R117: a point entry; an out section of 0 is absent; ThrowTime in units of 100 ms. -/
structure PointEntry where
  active    : Bool
  motor     : Byte
  supply    : SecNo
  straight  : Option SecNo
  diverging : Option SecNo
  throwTime : Nat
  deriving DecidableEq, Repr

/-- R43: a protection set. -/
structure ProtSet where
  imax         : Nat
  rateStart    : Nat
  rateHold     : Nat
  deltaLimit   : Nat
  episodeMax   : Nat
  icont        : Nat
  thermalLimit : Nat
  reverseLimit : Nat
  reverseTime  : Nat
  deriving DecidableEq, Repr

/-- R64: a shot of a program; dead time in units of 100 ms. -/
structure Shot where
  dead : Nat
  test : Bool
  deriving DecidableEq, Repr

/-- R64: a reclose program; ReclaimTime in seconds. -/
structure Program where
  shots   : List Shot
  testMin : Nat
  reclaim : Nat
  deriving DecidableEq, Repr

/-- R189: the settings block. Rate sets are ability-set bits (chapter 12); CorrWindow and AdmitInterval are in units of
100 ms, the other times in seconds. -/
structure Settings where
  own             : Byte
  control         : Byte
  maintenance     : Byte
  gateway         : Byte
  startActive     : Bool
  forwardDefault  : Bool
  fieldRates      : Byte
  controlRates    : Byte
  controlSilence  : Nat
  corrWindow      : Nat
  holdLimit       : Nat
  vehicleSilence  : Nat
  admitReports    : Nat
  admitInterval   : Nat
  requestLife     : Nat
  autonomousShots : Nat
  deriving DecidableEq, Repr

/-- R188: the six tables, the configuration in use. -/
structure Tables where
  binding  : Vector Binding 64
  station  : StationEntry
  sections : Vector SectionEntry 8
  points   : Vector PointEntry 24
  sets     : Vector ProtSet 4
  programs : Vector Program 4
  settings : Settings
  deriving DecidableEq, Repr

/-! ### Line ports (09) -/

/-- R154: link states. -/
inductive LinkState where
  | negotiating | acknowledging | up
  deriving DecidableEq, Repr

/-- R154: rates. -/
inductive Rate where
  | r9600 | r19200 | r57600 | r115200
  deriving DecidableEq, Repr

/-- R154: kinds of partner. -/
inductive Partner where
  | agreed | fixed
  deriving DecidableEq, Repr

/-- R154, R162: receiver states. -/
inductive RxState where
  | waitingGap | ready | receiving | skipping | babble
  deriving DecidableEq, Repr

/-- R164: a received telegram with its check word. -/
structure RxTelegram where
  tg    : Telegram
  check : CheckWord
  deriving DecidableEq, Repr

/-- R165: a breaker order in the urgent queue. -/
structure UrgentOrder where
  obj   : BreakerObj
  order : OrderKind
  tg    : Telegram
  deriving DecidableEq, Repr

/-- R155, R167: the frame the transmitter is sending; `further` marks the further ACK offer of R158. -/
structure Sending where
  frame   : List Byte
  further : Bool
  deriving DecidableEq, Repr

/-- R168: the nine counters of a line. -/
structure LineCounters where
  valid     : Nat
  formats   : Nat
  checks    : Nat
  babbles   : Nat
  overruns  : Nat
  forwarded : Nat
  consumed  : Nat
  discarded : Nat
  txDiscards : Nat
  deriving DecidableEq, Repr

/-- R154: the port record. `rxBytes`, `rxRun` and `rxTail` are the receiver's place in the byte stream (R162, R163);
`tx`, `offersWaiting` and `furtherWaiting` are the transmitter (R155, R158, R167; log 19). -/
structure Port where
  link           : LinkState
  rate           : Rate
  partner        : Option Partner
  resolved       : Option Rate
  ackReceived    : Bool
  upSince        : Option PartTime
  offerExp       : Option Expiry
  partnerExp     : Option Expiry
  partnerOver    : Bool
  quiet          : Option Expiry
  rx             : RxState
  rxBytes        : List Byte
  rxRun          : Nat
  rxTail         : Bool
  buffer         : List RxTelegram
  urgent         : List UrgentOrder
  normal         : List Telegram
  tx             : Option Sending
  offersWaiting  : Nat
  furtherWaiting : Bool
  counters       : LineCounters
  deriving DecidableEq, Repr

/-! ### Mode, commands and store (10, 11) -/

/-- R170: modes. -/
inductive Mode where
  | observe | active | autonomous
  deriving DecidableEq, Repr

/-- R170: causes of a change of mode. -/
inductive ChangeCause where
  | start | setMode | controlSilence | controlReturn
  deriving DecidableEq, Repr

/-- R170, R179: restart causes. -/
inductive RestartCause where
  | powerOn | supplyDip | resetLine | coldRequest | warmRequest
  deriving DecidableEq, Repr

/-- R170: the mode record. `dayRef` is a day time with the part time at which it held. -/
structure ModeRecord where
  mode         : Mode
  lastChange   : ChangeCause × PartTime
  silent       : Bool
  silence      : Option Expiry
  dayRef       : Option (Nat × PartTime)
  cause        : RestartCause
  tag          : Option Byte
  autonomous   : Nat
  marksTaken   : Nat
  marksRefused : Nat
  deriving DecidableEq, Repr

/-- R183: the command unit's counters. -/
structure CommandCounters where
  commands     : Nat
  requests     : Nat
  notPermitted : Nat
  malformed    : Nat
  deriving DecidableEq, Repr

/-- R191: store statuses. -/
inductive StoreStatus where
  | loaded | absent | invalid | timeout
  deriving DecidableEq, Repr

/-- R191: a memory transaction: a read of a run, or a write of one. -/
inductive Transfer where
  | read (address count : Nat)
  | write (address : Nat) (bytes : List Byte)
  deriving DecidableEq, Repr

/-- R191: the operation in flight with its progress: the bytes of the image read so far (load, reload), or the runs
still to be written (save). -/
inductive StoreOp where
  | load (got : List Byte)
  | read
  | write
  | save (todo : List Transfer)
  | reload (got : List Byte)
  deriving DecidableEq, Repr

/-- R191: who asked for the operation in flight. -/
structure Requester where
  req  : Req
  code : Byte
  deriving DecidableEq, Repr

/-- R191: the store record. -/
structure StoreRecord where
  status    : StoreStatus
  op        : Option StoreOp
  requester : Option Requester
  trans     : Option (Transfer × Expiry)
  deriving DecidableEq, Repr

/-- R184: results. -/
inductive Result where
  | done | accepted | refusedState | refusedInterlock | badArgument | busy | entryActive | notReady | notPermitted
  | storeTimeout | failed
  deriving DecidableEq, Repr

end Sys2Proof.Machine
end

