-- ==== Sys2Proof/Machine/Defaults.lean ====
section
/-! DEFINITION. The fixed times and limits of the rules, the default tables (R43, R64, R188, R189) and the cold-restart
column of every record table. -/

namespace Sys2Proof.Machine

open Sys2Proof

/-! ### Fixed times and limits -/

/-- R6: CloseConfirmTime. -/
def closeConfirmTime : Nat := 1000
/-- R6: TripConfirmTime. -/
def tripConfirmTime : Nat := 200
/-- R49: StaleTime. -/
def staleTime : Nat := 10
/-- R49: SettleCount. -/
def settleCount : Nat := 8
/-- R38: the spacing of WOULD_TRIP records. -/
def wouldTripSpacing : Nat := 1000
/-- R27: H_MAX. -/
def hMax : Nat := 1099511627775
/-- R30: the longest normal interval, and the ticks a gap stands for. -/
def gapTicks : Nat := 40
/-- R72: LineTestTime. -/
def lineTestTime : Nat := 3000
/-- R84: the incident list's places. -/
def incidentPlaces : Nat := 32
/-- R90: the places of an attributed-vehicle list. -/
def attributedPlaces : Nat := 4
/-- R99: the vehicle table's places. -/
def vehiclePlaces : Nat := 48
/-- R102: the spacing of TABLE_FULL reports. -/
def tableFullSpacing : Nat := 1000
/-- R108: DewireReach. -/
def dewireReach : Nat := 30000
/-- R124: the places of a request queue. -/
def requestPlaces : Nat := 4
/-- R154: LinkQuiet. -/
def linkQuiet : Nat := 3000
/-- R155: the spacing of offers. -/
def offerSpacing : Nat := 100
/-- R157: the partner expiry. -/
def partnerWait : Nat := 2000
/-- R163: the longest reception in byte times. -/
def babbleLimit : Nat := 64
/-- R162: the idle gap in byte times. -/
def gapByteTimes : Nat := 2
/-- R163: the idle gap that ends BABBLE. -/
def babbleGapByteTimes : Nat := 16
/-- R164: the places of a receive buffer. -/
def bufferPlaces : Nat := 4
/-- R166: the places of a normal transmit queue. -/
def normalPlaces : Nat := 32
/-- R178: one day in milliseconds. -/
def dayLength : Nat := 86400000
/-- R191: the expiry of a memory transaction. -/
def transactionTime : Nat := 25
/-- R191: the longest run of a memory transaction. -/
def runLength : Nat := 32
/-- R190: the size of the store. -/
def storeSize : Nat := 8192
/-- Chapter 12, "The store image": where the tables begin. -/
def tablesStart : Nat := 26
/-- The top of a 16-bit counter. -/
def top16 : Nat := 65535
/-- R168: the top of a line counter. -/
def top32 : Nat := 4294967295

/-! ### Default tables -/

/-- R189: the default settings. -/
def defaultSettings : Settings :=
  { own := 254, control := 1, maintenance := 0, gateway := 0, startActive := false, forwardDefault := true,
    fieldRates := 0x0F, controlRates := 0x0F, controlSilence := 10, corrWindow := 20, holdLimit := 60,
    vehicleSilence := 300, admitReports := 2, admitInterval := 20, requestLife := 30, autonomousShots := 1 }

/-- R43: the default protection set. -/
def defaultSet : ProtSet :=
  { imax := 6000, rateStart := 50, rateHold := 20, deltaLimit := 1500, episodeMax := 80, icont := 800,
    thermalLimit := 5000, reverseLimit := 600, reverseTime := 400 }

/-- R64: default program 1. -/
def defaultProgram1 : Program := { shots := [⟨30, true⟩], testMin := 2000, reclaim := 30 }
/-- R64: default program 2. -/
def defaultProgram2 : Program := { shots := [⟨30, true⟩, ⟨150, true⟩], testMin := 2000, reclaim := 60 }
/-- R64: default program 3. -/
def defaultProgram3 : Program :=
  { shots := [⟨5, false⟩, ⟨50, true⟩, ⟨300, true⟩], testMin := 1000, reclaim := 60 }
/-- R64: default program 4. -/
def defaultProgram4 : Program := { shots := [⟨600, true⟩], testMin := 5000, reclaim := 120 }

/-- R64: the default programs. -/
def defaultPrograms : Vector Program 4 := #v[defaultProgram1, defaultProgram2, defaultProgram3, defaultProgram4]

/-- R188: the default section entry. -/
def defaultSection : SectionEntry :=
  { active := false, breaker := 1, set := 0, program := none, secondary := false, blindTrip := false, blindTime := 20 }

/-- R188: the default station entry. -/
def defaultStation : StationEntry := { active := false, breaker := 1 }

/-- R188: the default point entry. -/
def defaultPoint : PointEntry :=
  { active := false, motor := 1, supply := 0, straight := none, diverging := none, throwTime := 20 }

/-- R141: a binding entry that nothing has loaded or written: inactive, no field compared, every value 0, disposition
FORWARD, no role and no rewrite (DESIGN CHOICE; log 43). -/
def defaultBinding : Binding :=
  { active := false, line := (false, .field), src := (false, 0), dst := (false, 0), kind := (false, 0),
    key := (false, 0), disposition := .forward, role := none, rewrite := none }

/-- R188, R192: every table at its defaults. -/
def defaultTables : Tables :=
  { binding := Vector.replicate 64 defaultBinding, station := defaultStation,
    sections := Vector.replicate 8 defaultSection, points := Vector.replicate 24 defaultPoint,
    sets := Vector.replicate 4 defaultSet, programs := defaultPrograms, settings := defaultSettings }

/-! ### Cold-restart values -/

/-- R1: the section record after a cold restart. -/
def coldCtl : SectionCtl :=
  { state := .dead, reason := .restart, position := .unknown, pending := none, former := none, incident := none,
    tripLine := false }

/-- R27: the feeder computation record after a cold restart. -/
def coldFeeder : Feeder :=
  { prev := none, rising := false, iBase := 0, elapsed := 0, h := 0, unexpRun := 0, unexpRaised := false, revRun := 0,
    revRaised := false, lastWould := none, dup := 0, gap := 0, saturated := 0, malformed := 0, aboveHalf := false }

/-- R49: a source record after a restart. -/
def coldSource : Source := { last := none, run := 0, fresh := false, stale := none }

/-- R52: the selector record of an inactive section, before the load ends as after a deactivation: BLIND, with no BLIND
period and so no blind since (R62; DESIGN CHOICE; log 46). -/
def coldSelector : Selector :=
  { state := .blind, blindSince := none, blindExpiry := none, overdue := false, changes := 0, blinds := 0 }

/-- R68: all gate flags no. -/
def noGates : Gates := ⟨false, false, false, false, false, false⟩

/-- R65: the reclose record after a cold restart. -/
def coldReclose : Reclose :=
  { shots := 0, phase := .idle, nextShot := none, tripKind := none, dead := none, holdBase := none, hold := none,
    holdOverdue := false, lineTest := none, reclaim := none, gates := noGates, lastTest := none }

/-- All records of a section after a cold restart. -/
def coldSec : Sec :=
  { ctl := coldCtl, feed := coldFeeder, prim := coldSource, seco := coldSource, sel := coldSelector, rcl := coldReclose }

/-- R19: the station record after a cold restart. -/
def coldStation : Station :=
  { state := .opened, reason := .restart, position := .unknown, pending := none, tripLine := false }

/-- R84: the incident list after a cold restart. -/
def coldIncidents : IncidentList := { records := [], next := 1, evictions := 0 }

/-- R99: the vehicle table after a cold restart. -/
def coldVehicles : VehicleTable :=
  { entries := [], taken := 0, badNumbers := 0, malformed := 0, provExpiries := 0, replacements := 0, tableFull := 0,
    silenceRemovals := 0, orders := 0, noGateway := 0, lastFull := none, refusals := 0 }

/-- R117: a point's counters after a restart. -/
def coldPointCounters : PointCounters := ⟨0, 0, 0, 0, 0, 0, 0⟩

/-- R117: the point record after a cold restart. -/
def coldPoint : Point :=
  { position := .unknown, candidate := none, activity := .atRest, failure := none, motion := none, occupancy := 0,
    countError := false, lock := none, obstruction := none, supplyLive := false, queue := [],
    counters := coldPointCounters }

/-- R117: the supervisor's counters after a restart. -/
def coldSupervisor : SupervisorCounters := ⟨0, 0, 0, 0, 0⟩

/-- R168: a line's counters after a restart. -/
def coldLineCounters : LineCounters := ⟨0, 0, 0, 0, 0, 0, 0, 0, 0⟩

/-- R154: the port record after a restart at part time `now`; the transmitter is idle (log 19). -/
def coldPort (now : PartTime) : Port :=
  { link := .negotiating, rate := .r9600, partner := none, resolved := none, ackReceived := false, upSince := none,
    offerExp := some ⟨now, 0⟩, partnerExp := some ⟨now, partnerWait⟩, partnerOver := false, quiet := none,
    rx := .waitingGap, rxBytes := [], rxRun := 0, rxTail := false, buffer := [], urgent := [], normal := [],
    tx := none, offersWaiting := 0, furtherWaiting := false, counters := coldLineCounters }

/-- R170: the mode record after a cold restart, while loading. Last change is START at the restart's own part time until
the load ends (DESIGN CHOICE; log 44). -/
def coldMode (cause : RestartCause) (tag : Option Byte) : ModeRecord :=
  { mode := .observe, lastChange := (.start, 0), silent := false, silence := none, dayRef := none, cause := cause, tag := tag,
    autonomous := 0, marksTaken := 0, marksRefused := 0 }

/-- R183: the command unit's counters after a restart. -/
def coldCommands : CommandCounters := ⟨0, 0, 0, 0⟩

/-- R191, R192: the store record at the start of the load: its first transaction reads the signature (log 8) and is
outstanding with its expiry as the restart ends (R179; DESIGN CHOICE; log 53). The status is ABSENT until the load sets it
(DESIGN CHOICE; log 44). -/
def coldStore (now : PartTime) : StoreRecord :=
  { status := .absent, op := some (.load []), requester := none, trans := some (.read 0 2, ⟨now, transactionTime⟩) }

end Sys2Proof.Machine
end

