-- ==== Sys2Proof/Machine/State.lean ====
section
/-! DEFINITION. The state of the VLS-824, the faults and refusals of a step, and the state after reset. Every record the
manual gives a block is a field; `freeCount` and `pending` are the model's own. -/

namespace Sys2Proof.Machine

open Sys2Proof

/-- The reasons a step may fault: none. Every failure the manual describes is a next state with its records written
(R18, R19, R121, R130, R191), so this closed type has no constructor. Safe: no step of the model stops by a fault. -/
inductive Fault where
  deriving DecidableEq, Repr

/-- The reasons a step may be refused. -/
inductive Refusal where
  /-- raised by `exec`'s arm of a command that has no meaning yet; no arm does. Safe: the model stops where the part
  goes on. -/
  | notModelled (mnemonic : String)
  deriving DecidableEq, Repr

/-- Everything the VLS-824 keeps (00_scope, "Block overview"). -/
structure State where
  /-- 00_scope, "Part time" -/
  partTime : PartTime
  /-- R179: the supply is at its working level -/
  supplyUp : Bool
  /-- R179: the external reset line is asserted -/
  resetLine : Bool
  /-- R188: the configuration in use -/
  tables : Tables
  /-- R1, R27, R49, R52, R65: the records of the eight sections -/
  secs : Vector Sec 8
  /-- R19: the station record -/
  station : Station
  /-- R84: the incident list -/
  incidents : IncidentList
  /-- R99: the vehicle table -/
  vehicles : VehicleTable
  /-- R117: the point records -/
  points : Vector Point 24
  /-- R117: the point supervisor's counters -/
  supervisor : SupervisorCounters
  /-- R141: hit and reject counts -/
  bindCounts : Vector BindCount 64
  /-- R154: the Field line port -/
  fieldPort : Port
  /-- R154: the Control line port -/
  controlPort : Port
  /-- R170: the mode record -/
  modeRec : ModeRecord
  /-- R183: the command unit's counters -/
  commands : CommandCounters
  /-- R191: the store record -/
  store : StoreRecord
  /-- R190: the contents of the store, in the canonical form of Machine/Memory.lean -/
  storeMem : List Host.Cell
  /-- the model's own: how many free choices have been taken (log 7) -/
  freeCount : Nat
  /-- the host's queue of commands, first in first out -/
  pending : List Instr
  deriving DecidableEq, Repr

/-- The machine right after reset: a cold restart with cause POWER_ON has just ended, every block holds its
cold-restart values and the load has begun (R179, R192). -/
def State.reset : State :=
  { partTime := 0, supplyUp := true, resetLine := false, tables := defaultTables, secs := Vector.replicate 8 coldSec,
    station := coldStation, incidents := coldIncidents, vehicles := coldVehicles,
    points := Vector.replicate 24 coldPoint, supervisor := coldSupervisor,
    bindCounts := Vector.replicate 64 ⟨0, 0⟩, fieldPort := coldPort 0, controlPort := coldPort 0,
    modeRec := coldMode .powerOn none, commands := coldCommands, store := coldStore 0, storeMem := [], freeCount := 0,
    pending := [] }

end Sys2Proof.Machine
end

