-- ==== Sys2Proof/Machine/Memory.lean ====
section
/-! DEFINITION. The contents of the store (R190): 8192 bytes as a list of cells in one canonical form. The addresses rise
strictly and lie below 8192, and no cell holds what an unlisted byte reads as. -/

namespace Sys2Proof.Machine

open Sys2Proof

/-- What a byte that nothing has written reads as (log 6). -/
def unlisted : Byte := 0xFF

/-- The cells, each an address and a byte. -/
abbrev Cells := List Host.Cell

/-- The byte at an address. -/
def readCell (a : Nat) : Cells → Byte
  | [] => unlisted
  | c :: rest => if c.1 = a then c.2 else readCell a rest

/-- Put a byte at an address; a byte equal to the unlisted value removes the cell. -/
def putCell (a : Nat) (b : Byte) : Cells → Cells
  | [] => if b = unlisted then [] else [(a, b)]
  | c :: rest =>
    if a < c.1 then (if b = unlisted then c :: rest else (a, b) :: c :: rest)
    else if a = c.1 then (if b = unlisted then rest else (a, b) :: rest)
    else c :: putCell a b rest

/-- R190: write a byte of the store; there is none past address 8191. -/
def writeByte (cs : Cells) (a : Nat) (b : Byte) : Cells := if a < storeSize then putCell a b cs else cs

/-- Read a run of `n` bytes. -/
def readRun (cs : Cells) (a n : Nat) : List Byte := (List.range n).map fun k => readCell (a + k) cs

/-- Write a run of bytes. -/
def writeRun (cs : Cells) (a : Nat) : List Byte → Cells
  | [] => cs
  | b :: bs => writeRun (writeByte cs a b) (a + 1) bs

/-- R191: a write that ended early has written those bytes of its run that `done` says; `k` counts the bytes. -/
def writeSome (cs : Cells) (done : Nat → Bool) (a k : Nat) : List Byte → Cells
  | [] => cs
  | b :: bs => writeSome (if done k then writeByte cs a b else cs) done (a + 1) (k + 1) bs

/-- The canonical form: addresses strictly rising and below 8192, and no cell equal to the unlisted value. `low` bounds
the addresses from below. -/
def Memory.wfFrom (low : Nat) : Cells → Bool
  | [] => true
  | c :: rest => low ≤ c.1 && c.1 < storeSize && c.2 != unlisted && Memory.wfFrom (c.1 + 1) rest

/-- The canonical form of the store's contents. -/
def Memory.wf (cs : Cells) : Bool := Memory.wfFrom 0 cs

end Sys2Proof.Machine
end

