-- ==== Sys2Proof/Machine/Ops.lean ====
section
/-! DEFINITION. The named operations every block uses: elapsed part time and expiries, saturating counters, the records
by number, the transmit queues (R165, R166), breaker orders and trip lines (R5, R7), and `Ev`, one event in progress with
the reports it has made so far. -/

namespace Sys2Proof.Machine

open Sys2Proof

/-! ### Time -/

/-- 00_scope, "Part time": the milliseconds elapsed since `since`; the wrap does not disturb it. -/
def elapsed (now since : PartTime) : Nat := (now - since).toNat

/-- An expiry is judged by the time elapsed since it was started. -/
def Expiry.due (e : Expiry) (now : PartTime) : Bool := e.span ≤ elapsed now e.start

/-- The part time remaining to an expiry, 0 once it is due. -/
def Expiry.remaining (e : Expiry) (now : PartTime) : Nat := e.span - elapsed now e.start

/-- The part time at which an expiry falls. -/
def Expiry.moment (e : Expiry) : PartTime := e.start + BitVec.ofNat 32 e.span

/-- Whether an expiry that may be absent is running and due. -/
def dueNow (now : PartTime) : Option Expiry → Bool
  | none => false
  | some e => e.due now

/-- R178: day time now, absent while the reference is absent. -/
def State.dayTime (s : State) : Option Nat :=
  s.modeRec.dayRef.map fun r => (r.1 + elapsed s.partTime r.2) % dayLength

/-- R83: the present moment as a record stamps it. -/
def State.stamp (s : State) : Stamp := ⟨s.partTime, s.dayTime⟩

/-! ### Counters -/

/-- A counter that saturates at 65,535. -/
def inc16 (n : Nat) : Nat := if n < top16 then n + 1 else n

/-- R168: a line counter, which saturates at 4,294,967,295. -/
def inc32 (n : Nat) : Nat := if n < top32 then n + 1 else n

/-! ### Records by number -/

/-- The mode as every block reads it. -/
def State.mode (s : State) : Mode := s.modeRec.mode

/-- The records of a section. -/
def State.sec (s : State) (i : SecNo) : Sec := s.secs[i]

/-- Change the records of a section. -/
def State.modSec (s : State) (i : SecNo) (f : Sec → Sec) : State := { s with secs := s.secs.set i (f s.secs[i]) }

/-- Change the section controller's record of a section. -/
def State.modCtl (s : State) (i : SecNo) (f : SectionCtl → SectionCtl) : State :=
  s.modSec i fun x => { x with ctl := f x.ctl }

/-- Change the feeder computation record of a section. -/
def State.modFeed (s : State) (i : SecNo) (f : Feeder → Feeder) : State :=
  s.modSec i fun x => { x with feed := f x.feed }

/-- Change the reclose record of a section. -/
def State.modRcl (s : State) (i : SecNo) (f : Reclose → Reclose) : State :=
  s.modSec i fun x => { x with rcl := f x.rcl }

/-- Change the selector record of a section. -/
def State.modSel (s : State) (i : SecNo) (f : Selector → Selector) : State :=
  s.modSec i fun x => { x with sel := f x.sel }

/-- A source record. -/
def Sec.source (x : Sec) : SourceRole → Source
  | .primary => x.prim
  | .secondary => x.seco

/-- Replace a source record. -/
def Sec.setSource (x : Sec) (r : SourceRole) (v : Source) : Sec :=
  match r with
  | .primary => { x with prim := v }
  | .secondary => { x with seco := v }

/-- A point record. -/
def State.point (s : State) (p : PointNo) : Point := s.points[p]

/-- Change a point record. -/
def State.modPoint (s : State) (p : PointNo) (f : Point → Point) : State :=
  { s with points := s.points.set p (f s.points[p]) }

/-- The entry of a section. -/
def State.secEntry (s : State) (i : SecNo) : SectionEntry := s.tables.sections[i]

/-- The entry of a point. -/
def State.pointEntry (s : State) (p : PointNo) : PointEntry := s.tables.points[p]

/-- R44: the protection set a section's entry names, read afresh. -/
def State.setOf (s : State) (i : SecNo) : ProtSet := s.tables.sets[(s.secEntry i).set]

/-- R64: the program a section's entry names, absent for program 0. -/
def State.programOf (s : State) (i : SecNo) : Option Program := (s.secEntry i).program.map fun k => s.tables.programs[k]

/-- The settings block. -/
def State.settings (s : State) : Settings := s.tables.settings

/-- Change the station record. -/
def State.modStation (s : State) (f : Station → Station) : State := { s with station := f s.station }

/-- A line's port. -/
def State.port (s : State) : Line → Port
  | .field => s.fieldPort
  | .control => s.controlPort

/-- Change a line's port. -/
def State.modPort (s : State) (l : Line) (f : Port → Port) : State :=
  match l with
  | .field => { s with fieldPort := f s.fieldPort }
  | .control => { s with controlPort := f s.controlPort }

/-- R155: a line's allowed rate set. -/
def Settings.rates (t : Settings) : Line → Byte
  | .field => t.fieldRates
  | .control => t.controlRates

/-- The line a telegram did not arrive on. -/
def Line.other : Line → Line
  | .field => .control
  | .control => .field

/-- Change a line's counters. -/
def State.modCounters (s : State) (l : Line) (f : LineCounters → LineCounters) : State :=
  s.modPort l fun p => { p with counters := f p.counters }

/-- The places 0 to 7 of the sections, in ascending order. -/
def allSecs : List SecNo := List.finRange 8

/-- The places of the points, in ascending order. -/
def allPoints : List PointNo := List.finRange 24

/-- The place of a section number 1 to 8. -/
def secOf (n : Nat) : Option SecNo := if h : 1 ≤ n ∧ n ≤ 8 then some ⟨n - 1, by omega⟩ else none

/-- The place of a point number 1 to 24. -/
def pointOf (n : Nat) : Option PointNo := if h : 1 ≤ n ∧ n ≤ 24 then some ⟨n - 1, by omega⟩ else none

/-- The number of a section, 1 to 8. -/
def secNum (i : SecNo) : Nat := i.val + 1

/-- The number of a point, 1 to 24. -/
def pointNum (p : PointNo) : Nat := p.val + 1

/-! ### Transmit queues -/

/-- R166: a telegram added to a full normal queue takes its place as the newest, and the oldest is discarded. -/
def Port.pushNormal (p : Port) (t : Telegram) : Port :=
  if p.normal.length < normalPlaces then { p with normal := p.normal ++ [t] }
  else { p with normal := p.normal.drop 1 ++ [t],
                counters := { p.counters with txDiscards := inc32 p.counters.txDiscards } }

/-- Queue a telegram into a line's normal queue (R166). -/
def State.pushNormal (s : State) (l : Line) (t : Telegram) : State := s.modPort l fun p => p.pushNormal t

/-- Queue telegrams one after another. -/
def State.pushAll (s : State) (l : Line) (ts : List Telegram) : State := ts.foldl (fun s t => s.pushNormal l t) s

/-- A telegram of the part's own. -/
def State.telegram (s : State) (dst kind : Byte) (body : List Byte) : Telegram :=
  { dst := dst, src := s.settings.own, kind := kind, body := body }

/-- A report to the control station (log 11). -/
def State.report (s : State) (kind : Byte) (body : List Byte) : Telegram := s.telegram s.settings.control kind body

/-- R165: an order for a breaker object that has one replaces it in place; another is added as the newest. -/
def pushUrgent (q : List UrgentOrder) (o : UrgentOrder) : List UrgentOrder :=
  if q.any (fun x => x.obj == o.obj) then q.map fun x => if x.obj == o.obj then o else x else q ++ [o]

/-- R165: a withdrawal removes the named object's BREAKER_CLOSE if it is there. -/
def withdrawClose (q : List UrgentOrder) (obj : BreakerObj) : List UrgentOrder :=
  q.filter fun x => !(x.obj == obj && x.order == .close)

/-! ### Breaker orders and trip lines -/

/-- Chapter 12: the kind codes of the breaker orders. -/
def OrderKind.code : OrderKind → Byte
  | .trip => 0x40
  | .close => 0x41
  | .opening => 0x42

/-- R5: the breaker station of a breaker object. -/
def State.breakerStation (s : State) : BreakerObj → Byte
  | .station => s.tables.station.breaker
  | .sec i => (s.secEntry i).breaker

/-- R5: queue a breaker order into the Field line urgent queue; in OBSERVE none is queued. -/
def State.queueOrder (s : State) (obj : BreakerObj) (k : OrderKind) : State :=
  if s.mode = .observe then s
  else { s with fieldPort := { s.fieldPort with
    urgent := pushUrgent s.fieldPort.urgent ⟨obj, k, s.telegram (s.breakerStation obj) k.code []⟩ } }

/-- R13, R20, R22: withdraw a BREAKER_CLOSE still in the urgent queue. -/
def State.withdraw (s : State) (obj : BreakerObj) : State :=
  { s with fieldPort := { s.fieldPort with urgent := withdrawClose s.fieldPort.urgent obj } }

/-- R7: assert a section's trip line; in OBSERVE no line is asserted. -/
def State.assertLine (s : State) (i : SecNo) : State :=
  if s.mode = .observe then s else s.modCtl i fun c => { c with tripLine := true }

/-- R7: release a section's trip line. -/
def State.releaseLine (s : State) (i : SecNo) : State := s.modCtl i fun c => { c with tripLine := false }

/-- R7: assert the station trip line; in OBSERVE no line is asserted. -/
def State.assertStationLine (s : State) : State :=
  if s.mode = .observe then s else s.modStation fun t => { t with tripLine := true }

/-- R7: release the station trip line. -/
def State.releaseStationLine (s : State) : State := s.modStation fun t => { t with tripLine := false }

/-- R7: the level of the trip line of each breaker object, in object order 0 to 8. -/
def State.tripLines (s : State) : List Bool :=
  s.station.tripLine :: allSecs.map fun i => (s.sec i).ctl.tripLine

/-- R7: release every trip line. -/
def State.releaseAllLines (s : State) : State :=
  { s with station := { s.station with tripLine := false },
           secs := s.secs.map fun x => { x with ctl := { x.ctl with tripLine := false } } }

/-- R2: set a section's state and its reason together. -/
def State.setSec (s : State) (i : SecNo) (st : SecState) (r : SecReason) : State :=
  s.modCtl i fun c => { c with state := st, reason := r }

/-- Set a section's pending order. -/
def State.setPending (s : State) (i : SecNo) (p : Option PendingOrder) : State :=
  s.modCtl i fun c => { c with pending := p }

/-- R3, R40: record a breaker position; when it leaves OPEN the unexplained raised flag becomes no. -/
def State.setPosition (s : State) (i : SecNo) (pos : Position) : State :=
  s.modSec i fun x => { x with
    ctl := { x.ctl with position := pos },
    feed := { x.feed with unexpRaised := x.feed.unexpRaised && !(x.ctl.position == .opened && pos != .opened) } }

/-- R6: the pending order queued now. -/
def State.order (s : State) (k : OrderKind) (o : Origin) (kind : Option TripKind) (line : Bool) : PendingOrder :=
  { order := k, origin := o, kind := kind, usesLine := line,
    expiry := ⟨s.partTime, if k = .close then closeConfirmTime else tripConfirmTime⟩ }

/-! ### Events in progress -/

/-- One event in progress: the state when it began, the state so far, and what is queued when it ends. VEHICLE_REPORTs
go first, then the section controller's reports, then INCIDENT_REPORTs, then POINT_REPORTs, then answers (R26, R94, R106,
R137, R176; log 12). -/
structure Ev where
  old             : State
  s               : State
  vehicleReports  : List Telegram
  selectorReports : List SecNo
  incidentReports : List Telegram
  serve           : List PointNo
  answers         : List (Line × Telegram)

/-- An event that has just begun. -/
def Ev.start (s : State) : Ev :=
  { old := s, s := s, vehicleReports := [], selectorReports := [], incidentReports := [], serve := [], answers := [] }

/-- Change the state of an event. -/
def Ev.mod (e : Ev) (f : State → State) : Ev := { e with s := f e.s }

/-- R115: a VEHICLE_REPORT of the event. -/
def Ev.vehicleReport (e : Ev) (t : Telegram) : Ev := { e with vehicleReports := e.vehicleReports ++ [t] }

/-- R94: an INCIDENT_REPORT of the event. -/
def Ev.incidentReport (e : Ev) (t : Telegram) : Ev := { e with incidentReports := e.incidentReports ++ [t] }

/-- R126: serve a point's head once, after all changes of the event. -/
def Ev.serveHead (e : Ev) (p : PointNo) : Ev :=
  if e.serve.contains p then e else { e with serve := e.serve ++ [p] }

/-- R183: an answer of the event. -/
def Ev.answer (e : Ev) (l : Line) (t : Telegram) : Ev := { e with answers := e.answers ++ [(l, t)] }

/-- Do something for each section in ascending order. -/
def Ev.forSecs (e : Ev) (f : Ev → SecNo → Ev) : Ev := allSecs.foldl f e

/-- Do something for each point in ascending order. -/
def Ev.forPoints (e : Ev) (f : Ev → PointNo → Ev) : Ev := allPoints.foldl f e

end Sys2Proof.Machine
end

