-- ==== Sys2Proof/Machine/Formats.lean ====
section
/-! DEFINITION. Chapter 12: the check word, the frame, the codes of every named value and the encoding of every field and
report body the part sends. -/

namespace Sys2Proof.Machine

open Sys2Proof

/-! ### Check word and frame -/

/-- R196: take one bit, most significant first, into the register of x^16 + x^12 + x^5 + 1. -/
def crcBit (r : CheckWord) (b : Bool) : CheckWord :=
  if r.msb == b then r <<< 1 else (r <<< 1) ^^^ 0x1021

/-- R196: take one byte, most significant bit first. -/
def crcByte (r : CheckWord) (b : Byte) : CheckWord :=
  [7, 6, 5, 4, 3, 2, 1, 0].foldl (fun r i => crcBit r (b.getLsbD i)) r

/-- R196: the check word of a run of bytes; the register starts at 0xFFFF and is not inverted. -/
def crc (bs : List Byte) : CheckWord := bs.foldl crcByte 0xFFFF

/-- A field of two bytes, high byte first. -/
def be16 (n : Nat) : List Byte := [BitVec.ofNat 8 (n / 256), BitVec.ofNat 8 n]

/-- A field of four bytes, high byte first. -/
def be32 (n : Nat) : List Byte := be16 (n / 65536) ++ be16 n

/-- H: five bytes, high byte first. -/
def be40 (n : Nat) : List Byte := BitVec.ofNat 8 (n / 4294967296) :: be32 n

/-- A field of one byte. -/
def be8 (n : Nat) : List Byte := [BitVec.ofNat 8 n]

/-- Chapter 12: SYNC. -/
def sync : Byte := 0xC3

/-- The bytes the check word is formed over: destination through the last body byte. -/
def Telegram.covered (t : Telegram) : List Byte :=
  [t.dst, t.src, t.kind, BitVec.ofNat 8 t.body.length] ++ t.body

/-- Chapter 12, "Framing": a telegram as it goes on a line, its check word freshly formed (R167). -/
def Telegram.frame (t : Telegram) : List Byte := sync :: Telegram.covered t ++ be16 (crc (Telegram.covered t)).toNat

/-! ### Kind codes -/

/-- Chapter 12, "Kinds and bodies". -/
def kSample : Byte := 0x10
def kBreakerState : Byte := 0x11
def kLineTestResult : Byte := 0x12
def kPointPosition : Byte := 0x20
def kContact : Byte := 0x21
def kRouteRequest : Byte := 0x22
def kVehicleStatus : Byte := 0x30
def kBreakerTrip : Byte := 0x40
def kBreakerClose : Byte := 0x41
def kBreakerOpen : Byte := 0x42
def kLineTest : Byte := 0x43
def kPointThrow : Byte := 0x48
def kPolesDown : Byte := 0x50
def kRouteGrant : Byte := 0x51
def kRouteRefuse : Byte := 0x52
def kSectionReport : Byte := 0x60
def kStationReport : Byte := 0x61
def kPointReport : Byte := 0x62
def kVehicleReport : Byte := 0x63
def kIncidentReport : Byte := 0x64
def kPathAdvisory : Byte := 0x65
def kStartReport : Byte := 0x66
def kCommand : Byte := 0x70
def kCommandResult : Byte := 0x71
def kMgRequest : Byte := 0x78
def kMgReply : Byte := 0x79
def kTimeMark : Byte := 0x7C
def kLinkOffer : Byte := 0x7F

/-! ### Codes of named values -/

/-- R196: the code of an absent enumerated value. -/
def absentCode : Byte := 0xFF

/-- R196: an optional enumerated value. -/
def enumOpt {α : Type} (f : α → Byte) : Option α → List Byte
  | none => [absentCode]
  | some x => [f x]

/-- R196: yes and no. -/
def flag (b : Bool) : List Byte := [if b then 1 else 0]

/-- R196: a yes or no of a record that may be absent: an enumerated value like the others. -/
def flagOpt : Option Bool → List Byte
  | none => [absentCode]
  | some b => flag b

/-- R196: a field whose every code is a value is preceded by a presence byte. -/
def presence (n : Nat) (x : Option (List Byte)) : List Byte :=
  match x with
  | none => 0 :: List.replicate n 0
  | some bs => 1 :: bs

/-- A part time. -/
def partTime4 (t : PartTime) : List Byte := be32 t.toNat

/-- An optional part time. -/
def partTimeOpt (t : Option PartTime) : List Byte := presence 4 (t.map partTime4)

/-- The part time remaining to an expiry that may be absent. -/
def remainingOpt (now : PartTime) (e : Option Expiry) : List Byte := presence 4 (e.map fun x => be32 (x.remaining now))

/-- An optional expiry, as the part time at which it falls. -/
def expiryOpt (e : Option Expiry) : List Byte := partTimeOpt (e.map Expiry.moment)

/-- A day time, 0xFFFFFFFF when absent. -/
def dayTime4 : Option Nat → List Byte
  | none => be32 0xFFFFFFFF
  | some d => be32 d

/-- A signed field of 16 bits. -/
def int16 (x : Int) : List Byte := be16 (BitVec.ofInt 16 x).toNat

/-- A current or a rise, 0x8000 when absent. -/
def current2 : Option Int → List Byte
  | none => be16 0x8000
  | some x => int16 x

/-- Elapsed ticks, 0xFFFF when absent. -/
def elapsed2 : Option Nat → List Byte
  | none => be16 0xFFFF
  | some n => be16 n

/-- An incident or vehicle number, 0 when absent. -/
def number2 : Option Nat → List Byte
  | none => be16 0
  | some n => be16 n

/-- A section number, 0 when absent. -/
def secByte : Option SecNo → List Byte
  | none => [0]
  | some i => be8 (secNum i)

/-- A point number, 0 when absent. -/
def pointByte : Option PointNo → List Byte
  | none => [0]
  | some p => be8 (pointNum p)

/-- R1's order. -/
def SecState.code : SecState → Byte
  | .dead => 0 | .closing => 1 | .live => 2 | .opening => 3 | .tripping => 4 | .waiting => 5 | .testing => 6
  | .lockedOut => 7 | .isolated => 8

/-- R2's order. -/
def SecReason.code : SecReason → Byte
  | .restart => 0 | .commandedClose => 1 | .shot => 2 | .reclosed => 3 | .localClose => 4 | .stationClosed => 5
  | .reset => 6 | .modeEntry => 7 | .commandedOpen => 8 | .commandedTrip => 9 | .openFailed => 10 | .localOpen => 11
  | .stationOpen => 12 | .closeFailed => 13 | .released => 14 | .instant => 15 | .delta => 16 | .thermal => 17
  | .blind => 18 | .commanded => 19 | .isolated => 20 | .isolatedForced => 21 | .shotsExhausted => 22
  | .noProgram => 23 | .breakerFailure => 24 | .blindTrip => 25 | .vehicleHoldExpired => 26 | .modeChange => 27

/-- Chapter 12: breaker positions, 4 for UNKNOWN in reports. -/
def Position.code : Position → Byte
  | .opened => 0 | .closed => 1 | .unknown => 4

/-- R1's order. -/
def tripLineCode (asserted : Bool) : Byte := if asserted then 1 else 0

/-- R1's order of orders. -/
def OrderKind.listCode : OrderKind → Byte
  | .close => 0 | .opening => 1 | .trip => 2

/-- R19's order of origins, COMMAND and BACKUP; the section's own origins follow R1's order. -/
def Origin.stationCode : Origin → Byte
  | .command => 0 | .backup => 1 | .reclose => 1 | .protection => 2 | .lock => 3

/-- R52's order. -/
def SelState.code : SelState → Byte
  | .usingPrimary => 0 | .usingSecondary => 1 | .blind => 2

/-- R65's order. -/
def Phase.code : Phase → Byte
  | .idle => 0 | .gating => 1 | .testing => 2 | .closing => 3 | .tripWait => 4 | .reclaim => 5

/-- R19's order. -/
def StState.code : StState → Byte
  | .closed => 0 | .opened => 1 | .closing => 2 | .tripping => 3 | .failed => 4

/-- R19's order. -/
def StReason.code : StReason → Byte
  | .restart => 0 | .localClose => 1 | .localOpen => 2 | .localTrip => 3 | .commandedClose => 4 | .commandedOpen => 5
  | .commandedTrip => 6 | .closeFailed => 7 | .openFailed => 8 | .backupTrip => 9 | .failed => 10 | .reset => 11

/-- R83's order. -/
def IncKind.code : IncKind → Byte
  | .tripInstant => 0 | .tripDelta => 1 | .tripThermal => 2 | .tripLocal => 3 | .tripBlind => 4 | .tripCommanded => 5
  | .breakerFailure => 6 | .stationFailure => 7 | .wouldTrip => 8 | .unexplainedCurrent => 9
  | .reverseUnexplained => 10 | .blindSection => 11 | .pointFailure => 12

/-- Chapter 12: object type (SECTION, STATION, POINT) and number. -/
def IncObject.bytes : IncObject → List Byte
  | .sec i => 0 :: be8 (secNum i)
  | .station => [1, 0]
  | .point p => 2 :: be8 (pointNum p)

/-- R83's order of the trip kinds of a trip incident, which is also R65's order. -/
def TripKind.code : TripKind → Byte
  | .instant => 0 | .delta => 1 | .thermal => 2 | .localTrip => 3 | .blind => 4 | .commanded => 5

/-- R83's order in each of its three lists of details. -/
def Detail.code : Detail → Byte
  | .decision .instant => 0 | .decision .delta => 1 | .decision .thermal => 2 | .decision .blind => 3
  | .decision .localTrip => 4 | .decision .commanded => 5
  | .cause .tripExpiry => 0 | .cause .failedReport => 1 | .cause .openExpiry => 2
  | .point .timeout => 0 | .point .supplyLost => 1 | .point .faultReported => 2

/-- R83's order. -/
def IncState.code : IncState → Byte
  | .opened => 0 | .held => 1 | .closed => 2

/-- R83's order. -/
def IncOutcome.code : IncOutcome → Byte
  | .reclosed => 0 | .lockedOut => 1 | .cancelled => 2 | .stationOpen => 3 | .recorded => 4

/-- R83's order. -/
def ShotOutcome.code : ShotOutcome → Byte
  | .closedOk => 0 | .testFailed => 1 | .closeFailed => 2 | .retripped => 3

/-- Chapter 12: fault codes. -/
def FaultCode.code : FaultCode → Byte
  | .insulation => 1 | .collectorShort => 2 | .dewired => 3 | .traction => 4 | .regenFault => 5

/-- Chapter 12: vehicle states. -/
def VehState.code : VehState → Byte
  | .running => 0 | .regen => 1 | .polesDown => 2

/-- R98's order. -/
def LocSource.code : LocSource → Byte
  | .marker => 0 | .point => 1

/-- R115's order. -/
def RemovalReason.code : RemovalReason → Byte
  | .replaced => 0 | .silence => 1 | .forgotten => 2

/-- Chapter 12: legs. -/
def Leg.code : Leg → Byte
  | .straight => 0 | .diverging => 1

/-- Chapter 12: point positions, 4 for UNKNOWN in reports. -/
def PointPos.code : PointPos → Byte
  | .straight => 0 | .diverging => 1 | .unknown => 4

/-- Chapter 12: blade reports. -/
def Blade.code : Blade → Byte
  | .straight => 0 | .diverging => 1 | .mid => 2

/-- R117's order. -/
def Activity.code : Activity → Byte
  | .atRest => 0 | .throwing => 1 | .failed => 2

/-- R117's order. -/
def PointFailReason.code : PointFailReason → Byte
  | .timeout => 0 | .supplyLost => 1 | .faultReported => 2

/-- R117's order. -/
def ThrowOrigin.code : ThrowOrigin → Byte
  | .vehicle => 0 | .control => 1

/-- Chapter 12: route refusals. -/
def RouteReason.code : RouteReason → Byte
  | .queueFull => 1 | .outOfService => 2 | .failed => 3 | .obstructed => 4 | .locked => 5 | .positionLost => 6
  | .expired => 7

/-- R154's order. -/
def LinkState.code : LinkState → Byte
  | .negotiating => 0 | .acknowledging => 1 | .up => 2

/-- Chapter 12: rate codes. -/
def Rate.code : Rate → Byte
  | .r9600 => 1 | .r19200 => 2 | .r57600 => 3 | .r115200 => 4

/-- R154's order. -/
def Partner.code : Partner → Byte
  | .agreed => 0 | .fixed => 1

/-- R154's order. -/
def RxState.code : RxState → Byte
  | .waitingGap => 0 | .ready => 1 | .receiving => 2 | .skipping => 3 | .babble => 4

/-- R170's order. -/
def Mode.code : Mode → Byte
  | .observe => 0 | .active => 1 | .autonomous => 2

/-- R170's order. -/
def ChangeCause.code : ChangeCause → Byte
  | .start => 0 | .setMode => 1 | .controlSilence => 2 | .controlReturn => 3

/-- R170's order. -/
def RestartCause.code : RestartCause → Byte
  | .powerOn => 0 | .supplyDip => 1 | .resetLine => 2 | .coldRequest => 3 | .warmRequest => 4

/-- R191's order. -/
def StoreStatus.code : StoreStatus → Byte
  | .loaded => 0 | .absent => 1 | .invalid => 2 | .timeout => 3

/-- Chapter 12: results. -/
def Result.code : Result → Byte
  | .done => 0 | .accepted => 1 | .refusedState => 2 | .refusedInterlock => 3 | .badArgument => 4 | .busy => 5
  | .entryActive => 6 | .notReady => 7 | .notPermitted => 8 | .storeTimeout => 9 | .failed => 10

/-- The number of a breaker object, 0 to 8. -/
def BreakerObj.num : BreakerObj → Nat
  | .station => 0
  | .sec i => secNum i

/-! ### Report bodies -/

/-- R45: the thermal percentage, capped at 250. -/
def thermalPercent (limit h : Nat) : Nat := min 250 (h * 100 / (limit * 1000000))

/-- R26: the body of a SECTION_REPORT. -/
def State.sectionReportBody (s : State) (i : SecNo) : List Byte :=
  let x := s.sec i
  be8 (secNum i) ++ [x.ctl.state.code, x.ctl.reason.code, x.ctl.position.code, tripLineCode x.ctl.tripLine,
    x.sel.state.code] ++ be8 (thermalPercent (s.setOf i).thermalLimit x.feed.h) ++ be8 x.rcl.shots
    ++ number2 x.ctl.incident

/-- Chapter 12: the trip lines in two bytes, bit k for breaker object k. -/
def lineBits (ls : List Bool) : Nat := ls.foldr (fun b n => (if b then 1 else 0) + 2 * n) 0

/-- R26: the body of a STATION_REPORT. -/
def State.stationReportBody (s : State) : List Byte :=
  [s.station.state.code, s.station.reason.code, s.station.position.code] ++ be16 (lineBits s.tripLines)

/-- R137: the body of a POINT_REPORT. -/
def State.pointReportBody (s : State) (p : PointNo) : List Byte :=
  let x := s.point p
  be8 (pointNum p) ++ [x.position.code, x.activity.code] ++ enumOpt Leg.code (x.motion.map Motion.leg)
    ++ enumOpt ThrowOrigin.code (x.motion.map Motion.origin) ++ enumOpt PointFailReason.code x.failure
    ++ be8 x.occupancy ++ flag x.countError ++ enumOpt Leg.code x.lock ++ number2 x.obstruction ++ flag x.supplyLive
    ++ be8 x.queue.length ++ number2 (x.queue.head?.map Request.vehicle)
    ++ enumOpt Leg.code (x.queue.head?.map Request.leg) ++ flagOpt (x.queue.head?.map fun r => r.granted.isSome)

/-- R98: a fault list. -/
def faultBytes (fs : List (FaultCode × PartTime)) : List Byte :=
  be8 fs.length ++ fs.flatMap fun f => f.1.code :: partTime4 f.2

/-- R115: the body of a VEHICLE_REPORT with causes ADMITTED, SECTION and FAULTS. -/
def Vehicle.reportBody (v : Vehicle) (admitted moved faults : Bool) : List Byte :=
  be8 ((if admitted then 1 else 0) + (if moved then 2 else 0) + (if faults then 4 else 0))
    ++ be16 v.number ++ secByte v.loc ++ [v.source.code, v.state.code] ++ faultBytes v.faults ++ be8 v.attributed
    ++ pointByte (v.lastPoint.map Prod.fst) ++ partTimeOpt (v.lastPoint.map Prod.snd)

/-- R115: the body of a VEHICLE_REPORT with cause REMOVED. -/
def Vehicle.removedBody (v : Vehicle) (r : RemovalReason) : List Byte :=
  [8] ++ be16 v.number ++ [r.code] ++ secByte v.loc ++ [v.state.code] ++ faultBytes v.faults

/-- R115: the body of a VEHICLE_REPORT with cause TABLE_FULL. -/
def tableFullBody (vehicle refusals entries : Nat) : List Byte := [16] ++ be16 vehicle ++ be16 refusals ++ be8 entries

/-- R83: a stamp that is present. -/
def Stamp.bytes (t : Stamp) : List Byte := partTime4 t.part ++ dayTime4 t.day

/-- R83: a stamp that may be absent. -/
def stampOpt (t : Option Stamp) : List Byte := partTimeOpt (t.map Stamp.part) ++ dayTime4 (t.bind Stamp.day)

/-- R83, R196: captured values, which may be absent as a whole. -/
def capturedBytes (c : Option Captured) : List Byte :=
  current2 (c.bind Captured.current) ++ current2 ((c.bind Captured.rise).map Prod.fst)
    ++ elapsed2 ((c.bind Captured.rise).map Prod.snd) ++ presence 5 (c.map fun x => be40 x.h)
    ++ flagOpt (c.map Captured.saturated)

/-- R83: the last trip, which may be absent. -/
def lastTripBytes (t : Option (TripKind × PartTime)) : List Byte :=
  enumOpt TripKind.code (t.map Prod.fst) ++ partTimeOpt (t.map Prod.snd)

/-- R90, R94: LOCATED or UNLOCATED. -/
def locatedCode (b : Bool) : Byte := if b then 0 else 1

/-- R83: an entry of the attributed-vehicle list. -/
def Attributed.bytes (a : Attributed) : List Byte :=
  be16 a.vehicle ++ [a.fault.code, locatedCode a.located] ++ partTime4 a.at_

/-- R94: the cause of an INCIDENT_REPORT with the values only the event knows. -/
inductive IncCause where
  | created
  | attached (a : Attributed)
  | more (vehicle : Nat) (fault : FaultCode)
  | windowClosed
  | tripContinued (captured : Option Captured)
  | shot (number : Nat) (outcome : ShotOutcome)
  | closed
  deriving DecidableEq, Repr

/-- R94's order of causes. -/
def IncCause.code : IncCause → Byte
  | .created => 0 | .attached _ => 1 | .more _ _ => 1 | .windowClosed => 2 | .tripContinued _ => 3 | .shot _ _ => 4
  | .closed => 5

/-- R94: the contents of a cause, in the order R94 lists them. -/
def Incident.causeBytes (r : Incident) : IncCause → List Byte
  | .created => r.opened.bytes ++ enumOpt Detail.code r.detail ++ capturedBytes r.captured ++ expiryOpt r.window
      ++ stampOpt r.closed
  | .attached a => a.bytes ++ be8 r.vehicles.length
  | .more v f => be16 v ++ [f.code] ++ flag true ++ be8 r.vehicles.length
  | .windowClosed => be8 r.vehicles.length ++ flag r.more
  | .tripContinued c => be8 r.tripCount ++ lastTripBytes r.lastTrip ++ capturedBytes c
  | .shot n o => be8 n ++ [o.code] ++ be8 r.shots.length
  | .closed => stampOpt r.closed ++ be8 r.tripCount ++ be8 r.shots.length ++ be8 r.vehicles.length ++ flag r.more

/-- R94: the body of an INCIDENT_REPORT. -/
def Incident.reportBody (r : Incident) (c : IncCause) : List Byte :=
  be16 r.number ++ [r.kind.code] ++ r.object.bytes ++ [r.state.code] ++ enumOpt IncOutcome.code r.outcome ++ [c.code]
    ++ r.causeBytes c

/-- R181: the body of a START_REPORT. -/
def State.startReportBody (s : State) : List Byte :=
  [s.modeRec.cause.code] ++ presence 1 (s.modeRec.tag.map fun t => [t]) ++ [s.store.status.code]
    ++ [s.mode.code] ++ be16 0x0824 ++ [0x01] ++ dayTime4 s.dayTime

end Sys2Proof.Machine
end

