-- ==== Sys2Proof/Machine/VehicleTable.lean ====
section
/-! DEFINITION. The vehicle table as other blocks use it: entries by number, the queries of R110, the attributed count of
R111 and the POLES_DOWN order of R112. -/

namespace Sys2Proof.Machine

open Sys2Proof

/-- R98: the line-affecting codes. -/
def FaultCode.lineAffecting : FaultCode → Bool
  | .insulation | .collectorShort | .dewired => true
  | .traction | .regenFault => false

/-- The entry for a vehicle number. -/
def State.vehicle? (s : State) (n : Nat) : Option Vehicle := s.vehicles.entries.find? fun v => v.number == n

/-- Change the vehicle table. -/
def State.modVehicles (s : State) (f : VehicleTable → VehicleTable) : State := { s with vehicles := f s.vehicles }

/-- Change the entry for a vehicle number, if there is one. -/
def State.modVehicle (s : State) (n : Nat) (f : Vehicle → Vehicle) : State :=
  s.modVehicles fun t => { t with entries := t.entries.map fun v => if v.number == n then f v else v }

/-- Put a new entry at its place in rising order of number; an entry with the same number is replaced. -/
def insertVehicle (v : Vehicle) : List Vehicle → List Vehicle
  | [] => [v]
  | w :: ws => if v.number < w.number then v :: w :: ws
               else if v.number == w.number then v :: ws
               else w :: insertVehicle v ws

/-- Add an entry to the table. -/
def State.addVehicle (s : State) (v : Vehicle) : State :=
  s.modVehicles fun t => { t with entries := insertVehicle v t.entries }

/-- Remove the entry for a vehicle number. -/
def State.removeVehicle (s : State) (n : Nat) : State :=
  s.modVehicles fun t => { t with entries := t.entries.filter fun v => v.number != n }

/-- R98: a vehicle is located in a section when it is ADMITTED and its section is that one. -/
def Vehicle.locatedIn (v : Vehicle) (i : SecNo) : Bool := v.admitted && v.loc == some i

/-- R110: REGEN in a section. -/
def State.regenIn (s : State) (i : SecNo) : Bool :=
  s.vehicles.entries.any fun v => v.locatedIn i && v.state == .regen

/-- R110: poles up in a section. -/
def State.polesUpIn (s : State) (i : SecNo) : Bool :=
  s.vehicles.entries.any fun v => v.locatedIn i && v.state != .polesDown

/-- R68, gate 3: the vehicle is POLES_DOWN or has left the table. -/
def State.polesDownOrGone (s : State) (n : Nat) : Bool :=
  match s.vehicle? n with
  | none => true
  | some v => v.state == .polesDown

/-- R111: a listing raises the attributed count. -/
def State.countUp (s : State) (n : Nat) : State := s.modVehicle n fun v => { v with attributed := v.attributed + 1 }

/-- R93, R111: a closure lowers the attributed count. -/
def State.countDown (s : State) (n : Nat) : State := s.modVehicle n fun v => { v with attributed := v.attributed - 1 }

/-- R112: the body of a POLES_DOWN order. -/
def polesDownBody (vehicle incident : Nat) : List Byte := be16 vehicle ++ be16 incident

/-- R112: a request for a POLES_DOWN order. -/
def State.requestPolesDown (s : State) (n incident : Nat) : State :=
  match s.vehicle? n with
  | none => s
  | some v =>
    if s.mode = .observe ∨ v.state = .polesDown then s
    else if s.settings.gateway = 0 then s.modVehicles fun t => { t with noGateway := inc16 t.noGateway }
    else ((s.pushNormal .field (s.telegram s.settings.gateway kPolesDown (polesDownBody n incident))).modVehicle n
        fun v => { v with lastOrder := some (incident, s.partTime) }).modVehicles
        fun t => { t with orders := inc16 t.orders }

end Sys2Proof.Machine
end

