-- ==== Sys2Proof/Machine/Incidents.lean ====
section
/-! DEFINITION. The incident list (05): adding a record with its eviction (R84, R85), the records created CLOSED, shot
entries and continued trips (R92), and closure (R93). Attachment is in Machine/Attribution.lean. -/

namespace Sys2Proof.Machine

open Sys2Proof

/-- R84: the number after `n`; 0 is skipped. -/
def numberAfter (n : Nat) : Nat := if n < 65535 then n + 1 else 1

/-- R84: move a number on while a record in the list holds it. -/
def skipHeld (held : List Nat) : Nat → Nat → Nat
  | 0, n => n
  | k + 1, n => if held.contains n then skipHeld held k (numberAfter n) else n

/-- R85: make room: a full list removes its oldest CLOSED record and counts an eviction. -/
def IncidentList.evict (l : IncidentList) : IncidentList :=
  if l.records.length < incidentPlaces then l
  else if l.records.any fun r => r.state == .closed then
    { l with records := l.records.eraseP (fun r => r.state == .closed), evictions := inc16 l.evictions }
  else l

/-- R84, R85: add a record under the next number and move the next number on. -/
def IncidentList.add (l : IncidentList) (r : Incident) : IncidentList :=
  let l' := l.evict
  let records := l'.records ++ [{ r with number := l.next }]
  { l' with records := records,
            next := skipHeld (records.map Incident.number) (records.length + 1) (numberAfter l.next) }

/-- The record with a number. -/
def State.record? (s : State) (n : Nat) : Option Incident := s.incidents.records.find? fun r => r.number == n

/-- Change the record with a number. -/
def State.modRecord (s : State) (n : Nat) (f : Incident → Incident) : State :=
  { s with incidents :=
      { s.incidents with records := s.incidents.records.map fun r => if r.number == n then f r else r } }

/-- The record that a section's current incident names, if it is the section's own (log 26). -/
def State.incidentOf (s : State) (i : SecNo) : Option Incident :=
  match (s.sec i).ctl.incident with
  | none => none
  | some n => (s.record? n).filter fun r => r.object == .sec i

/-- R8: the section's current incident while it is OPEN or HELD. -/
def State.liveIncident (s : State) (i : SecNo) : Option Incident :=
  (s.incidentOf i).filter fun r => r.state != .closed

/-- R94: queue an INCIDENT_REPORT on the record with a number. -/
def Ev.reportIncident (e : Ev) (n : Nat) (c : IncCause) : Ev :=
  match e.s.record? n with
  | none => e
  | some r => e.incidentReport (e.s.report kIncidentReport (r.reportBody c))

/-- R84: add a record and report it CREATED (R94). The record's number is the list's next number. -/
def Ev.addIncident (e : Ev) (r : Incident) : Ev :=
  let n := e.s.incidents.next
  (e.mod fun s => { s with incidents := s.incidents.add r }).reportIncident n .created

/-- R83, R93: a record created CLOSED with outcome RECORDED, opened and closed now. -/
def State.closedRecord (s : State) (k : IncKind) (obj : IncObject) (d : Option Detail) (c : Option Captured) : Incident :=
  { number := 0, kind := k, object := obj, detail := d, opened := s.stamp, state := .closed, outcome := some .recorded,
    closed := some s.stamp, window := none, captured := c, tripCount := 0, lastTrip := none, shots := [], vehicles := [],
    more := false }

/-- R83: record an incident that is created CLOSED. -/
def Ev.recordClosed (e : Ev) (k : IncKind) (obj : IncObject) (d : Option Detail) (c : Option Captured) : Ev :=
  e.addIncident (e.s.closedRecord k obj d c)

/-- R93: the record when it closes. -/
def Incident.close (r : Incident) (o : IncOutcome) (t : Stamp) : Incident :=
  { r with state := .closed, outcome := some o, closed := some t, window := none }

/-- R93: close a section's current incident if it is OPEN or HELD. -/
def Ev.closeIncident (e : Ev) (i : SecNo) (o : IncOutcome) : Ev :=
  match e.s.liveIncident i with
  | none => e
  | some r =>
    let closed := e.mod fun s => s.modRecord r.number fun r => r.close o s.stamp
    let counted := r.vehicles.foldl (fun e a => e.mod fun s => s.countDown a.vehicle) closed
    counted.reportIncident r.number .closed

/-- R92: add a shot entry to the section's current incident. -/
def Ev.addShot (e : Ev) (i : SecNo) (number : Nat) (o : ShotOutcome) : Ev :=
  match e.s.liveIncident i with
  | none => e
  | some r => (e.mod fun s => s.modRecord r.number fun r => { r with shots := r.shots ++ [(number, o)] }).reportIncident
      r.number (.shot number o)

/-- R92: a new trip continues the incident. -/
def Ev.continueTrip (e : Ev) (number : Nat) (k : TripKind) (c : Option Captured) : Ev :=
  (e.mod fun s => s.modRecord number fun r =>
    { r with tripCount := r.tripCount + 1, lastTrip := some (k, s.partTime) }).reportIncident number (.tripContinued c)

end Sys2Proof.Machine
end

