-- ==== Sys2Proof/Machine/Flags.lean ====
section
/-! DEFINITION. The conditions the blocks compute from the records: the LIVE condition (R4), the conditions of a close
(R5), the half limit (R35), the shot limit (R66) and the six gates (R68). -/

namespace Sys2Proof.Machine

open Sys2Proof

/-- R4: both positions CLOSED. -/
def State.bothClosed (s : State) (i : SecNo) : Bool :=
  (s.sec i).ctl.position == .closed && s.station.position == .closed

/-- R35: the half limit of a section. -/
def State.halfLimit (s : State) (i : SecNo) : Nat := (s.setOf i).thermalLimit * 500000

/-- R5, R35: the thermal value is below the half limit. -/
def State.belowHalf (s : State) (i : SecNo) : Bool := (s.sec i).feed.h < s.halfLimit i

/-- R5: the conditions under which a section BREAKER_CLOSE may be queued, the mode apart. -/
def State.closeAllowed (s : State) (i : SecNo) : Bool :=
  s.station.state == .closed && s.station.position == .closed && (s.sec i).sel.state != .blind && s.belowHalf i

/-- R66: the shot limit; absent for a section with program 0. -/
def State.shotLimit (s : State) (i : SecNo) : Option Nat :=
  (s.programOf i).map fun p =>
    if s.mode = .autonomous then min p.shots.length s.settings.autonomousShots else p.shots.length

/-- R67, R74: the shot count is at or above the limit. -/
def State.limitReached (s : State) (i : SecNo) : Bool :=
  match s.shotLimit i with
  | none => false
  | some n => n ≤ (s.sec i).rcl.shots

/-- R70, R80: a shot number exceeds the limit. -/
def State.exceedsLimit (s : State) (i : SecNo) (n : Nat) : Bool :=
  match s.shotLimit i with
  | none => false
  | some k => k < n

/-- R64: shot `n` of a section's program. -/
def State.shotOf (s : State) (i : SecNo) (n : Nat) : Option Shot :=
  (s.programOf i).bind fun p => p.shots[n - 1]?

/-- R68: whether a gate holds now. -/
def State.gateHolds (s : State) (i : SecNo) : Gate → Bool
  | .deadTime => (s.sec i).rcl.dead.isNone
  | .window => match s.incidentOf i with
    | none => true
    | some r => r.state != .opened
  | .vehicles => match s.incidentOf i with
    | none => true
    | some r => r.vehicles.all fun a => s.polesDownOrGone a.vehicle
  | .thermal => s.belowHalf i
  | .source => (s.sec i).sel.state != .blind
  | .station => s.station.state == .closed

/-- Record one gate flag. -/
def Gates.put (g : Gates) (k : Gate) (b : Bool) : Gates :=
  match k with
  | .deadTime => { g with deadTime := b }
  | .window => { g with window := b }
  | .vehicles => { g with vehicles := b }
  | .thermal => { g with thermal := b }
  | .source => { g with source := b }
  | .station => { g with station := b }

/-- R69: all six flags hold together. -/
def Gates.all (g : Gates) : Bool := g.deadTime && g.window && g.vehicles && g.thermal && g.source && g.station

/-- R8, R59: the states in which a trip decision is acted on. -/
def SecState.trippable : SecState → Bool
  | .live | .closing | .opening => true
  | _ => false

/-- R18: the reasons of R8's trip kinds. -/
def TripKind.reason : TripKind → SecReason
  | .instant => .instant | .delta => .delta | .thermal => .thermal | .blind => .blind
  | .commanded => .commanded | .localTrip => .commanded

/-- R8, R10, R87: the incident kind of a trip kind. -/
def TripKind.incKind : TripKind → IncKind
  | .instant => .tripInstant | .delta => .tripDelta | .thermal => .tripThermal | .localTrip => .tripLocal
  | .blind => .tripBlind | .commanded => .tripCommanded

/-- R38: a WOULD_TRIP may be recorded at this spacing. -/
def spaced (now : PartTime) : Option PartTime → Bool
  | none => true
  | some t => wouldTripSpacing ≤ elapsed now t

end Sys2Proof.Machine
end

