-- ==== Sys2Proof/Machine/Reclose.lean ====
section
/-! DEFINITION. The reclose unit (04): confirmation of a trip, the gates, shots, line tests, reclaim, lockout and
cancellation. The section controller's part of R12 (a reclose close) stands here, where it is asked for. -/

namespace Sys2Proof.Machine

open Sys2Proof

/-- R78, R79: the reclose record when a sequence ends: IDLE, with no next shot and no expiry. The hold base goes with the
hold expiry (DESIGN CHOICE; log 47). -/
def Reclose.ended (r : Reclose) : Reclose :=
  { r with phase := .idle, nextShot := none, dead := none, holdBase := none, hold := none, holdOverdue := false,
           lineTest := none, reclaim := none }

/-- R78: a lockout from reclosing. -/
def Ev.lockout (e : Ev) (i : SecNo) (r : SecReason) : Ev :=
  (e.mod fun s => (s.setSec i .lockedOut r).modRcl i Reclose.ended).closeIncident i .lockedOut

/-- R79: any reclose sequence of the section is cancelled; the phase is IDLE where none runs, and nothing changes then
(log 14). A section that is not LOCKED_OUT loses its shot count and its current incident. The incident has been closed by
the rule that cancels. -/
def Ev.cancelSequence (e : Ev) (i : SecNo) : Ev :=
  if (e.s.sec i).rcl.phase = .idle then e
  else e.mod fun s =>
    let s := s.modRcl i Reclose.ended
    if (s.sec i).ctl.state = .lockedOut then s
    else (s.modRcl i fun r => { r with shots := 0 }).modCtl i fun c => { c with incident := none }

/-- R68: the six gates as they stand when a dead time starts. -/
def State.gatesNow (s : State) (i : SecNo) : Gates :=
  { deadTime := s.gateHolds i .deadTime, window := s.gateHolds i .window, vehicles := s.gateHolds i .vehicles,
    thermal := s.gateHolds i .thermal, source := s.gateHolds i .source, station := s.gateHolds i .station }

/-- R68, step 3: ask for a POLES_DOWN order for each listed vehicle. -/
def State.askPolesDown (s : State) (i : SecNo) : State :=
  match s.incidentOf i with
  | none => s
  | some r => r.vehicles.foldl (fun s a => s.requestPolesDown a.vehicle r.number) s

/-- R71: hold overdue and gate 3 found failing. -/
def State.holdFails (s : State) (i : SecNo) : Bool := (s.sec i).rcl.holdOverdue && !(s.sec i).rcl.gates.vehicles

/-- R68: a dead time starts; with hold overdue and gate 3 failing the section locks out instead (R71). -/
def Ev.startDeadTime (e : Ev) (i : SecNo) (next : Nat) : Ev :=
  let e := e.mod fun s =>
    let s := (s.setSec i .waiting .shot).modRcl i fun r =>
      { r with phase := .gating, nextShot := some next,
               dead := some ⟨s.partTime, (match s.shotOf i next with | none => 0 | some x => x.dead * 100)⟩ }
    s.modRcl i fun r => { r with gates := s.gatesNow i }
  if e.s.holdFails i then e.lockout i .vehicleHoldExpired
  else e.mod fun s => s.askPolesDown i

/-- R74: a shot fails. -/
def Ev.shotFailed (e : Ev) (i : SecNo) (o : ShotOutcome) : Ev :=
  let e := (e.addShot i (e.s.sec i).rcl.shots o).mod fun s => s.modRcl i fun r => { r with lineTest := none }
  if e.s.mode = .observe then e.lockout i .modeChange
  else if e.s.limitReached i then e.lockout i .shotsExhausted
  else e.startDeadTime i ((e.s.sec i).rcl.shots + 1)

/-- R12: the reclose unit asks for a close from WAITING or TESTING. -/
def Ev.closeRequest (e : Ev) (i : SecNo) : Ev :=
  if (e.s.sec i).ctl.state = .waiting ∨ (e.s.sec i).ctl.state = .testing then
    if e.s.closeAllowed i then
      e.mod fun s => (((s.queueOrder (.sec i) .close).setPending i (some (s.order .close .reclose none false))).setSec
        i .closing .shot).modRcl i fun r => { r with phase := .closing }
    else e.shotFailed i .closeFailed
  else e

/-- R70, R72: the next shot begins, or the section locks out on the shot limit. -/
def Ev.beginShot (e : Ev) (i : SecNo) : Ev :=
  match (e.s.sec i).rcl.nextShot with
  | none => e
  | some n =>
    if e.s.exceedsLimit i n then e.lockout i .shotsExhausted
    else
      let e := e.mod fun s => s.modRcl i fun r => { r with shots := n, nextShot := none, dead := none }
      if (e.s.shotOf i n).any Shot.test then
        e.mod fun s => (((s.setSec i .testing .shot).modRcl i fun r =>
          { r with phase := .testing, lineTest := some ⟨s.partTime, lineTestTime⟩ }).pushNormal .field
          (s.telegram (s.secEntry i).breaker kLineTest []))
      else e.closeRequest i

/-- R69: an input of a gate has changed: the gate is judged anew; all six holding begins the shot, and hold overdue
with gate 3 failing locks out (R71). -/
def Ev.reevaluate (e : Ev) (i : SecNo) (g : Gate) : Ev :=
  if (e.s.sec i).rcl.phase = .gating then
    let e := e.mod fun s => s.modRcl i fun r => { r with gates := r.gates.put g (s.gateHolds i g) }
    if e.s.holdFails i then e.lockout i .vehicleHoldExpired
    else if (e.s.sec i).rcl.gates.all then e.beginShot i
    else e
  else e

/-- R67: a trip is confirmed with its kind. -/
def Ev.tripConfirmed (e : Ev) (i : SecNo) (k : Option TripKind) : Ev :=
  let e := e.mod fun s => s.modRcl i fun r => { r with tripKind := k }
  if k = some .blind then e.lockout i .blindTrip
  else if e.s.mode = .observe ∨ (e.s.secEntry i).program = none then e.lockout i .noProgram
  else if e.s.limitReached i then e.lockout i .shotsExhausted
  else
    let base := match e.s.incidentOf i with
      | none => e.s.partTime
      | some r => match r.lastTrip with
        | none => e.s.partTime
        | some t => t.2
    (e.mod fun s => s.modRcl i fun r =>
      { r with holdBase := some base, hold := some ⟨base, s.settings.holdLimit * 1000⟩, holdOverdue := false }).startDeadTime
      i ((e.s.sec i).rcl.shots + 1)

/-- R75: a reclose close is confirmed; the section is already LIVE with reason RECLOSED. The hold base goes with the hold
expiry (DESIGN CHOICE; log 47). -/
def Ev.closeConfirmed (e : Ev) (i : SecNo) : Ev :=
  (e.addShot i (e.s.sec i).rcl.shots .closedOk).mod fun s => s.modRcl i fun r =>
    { r with phase := .reclaim, holdBase := none, hold := none, holdOverdue := false,
             reclaim := some ⟨s.partTime, (match s.programOf i with | none => 0 | some p => p.reclaim * 1000)⟩ }

/-- R75: the reclaim expiry is taken. -/
def Ev.reclaimOver (e : Ev) (i : SecNo) : Ev :=
  ((e.mod fun s => s.modRcl i fun r => { r with shots := 0, phase := .idle, reclaim := none }).closeIncident i
    .reclosed).mod fun s => s.modCtl i fun c => { c with incident := none }

/-- R76: a trip in reclaim continues the sequence. -/
def Ev.tripInReclaim (e : Ev) (i : SecNo) : Ev :=
  if (e.s.sec i).rcl.phase = .reclaim then
    e.mod fun s => s.modRcl i fun r => { r with phase := .tripWait, reclaim := none }
  else e

/-- R77: a trip during a reclose close ends the shot RETRIPPED. -/
def Ev.retripped (e : Ev) (i : SecNo) : Ev :=
  (e.addShot i (e.s.sec i).rcl.shots .retripped).mod fun s => s.modRcl i fun r => { r with phase := .tripWait }

/-- R73: a line-test result is recorded and, in TESTING, judged. -/
def Ev.lineTestResult (e : Ev) (i : SecNo) (result : BitVec 16) : Ev :=
  let judged := (e.s.sec i).rcl.phase == .testing
  let e := e.mod fun s => s.modRcl i fun r => { r with lastTest := some ⟨result, s.partTime, judged⟩ }
  if judged then
    if result = 0xFFFF ∨ result.toNat < (match e.s.programOf i with | none => 0 | some p => p.testMin) then
      e.shotFailed i .testFailed
    else (e.mod fun s => s.modRcl i fun r => { r with lineTest := none }).closeRequest i
  else e

/-- R80: a change of mode acts on one section's sequence. -/
def Ev.modeActsOn (e : Ev) (m : Mode) (i : SecNo) : Ev :=
  let r := (e.s.sec i).rcl
  match m with
  | .observe => if r.phase = .gating ∨ r.phase = .testing then e.lockout i .modeChange else e
  | .autonomous => if r.phase = .gating ∧ r.nextShot.any (e.s.exceedsLimit i) then e.lockout i .shotsExhausted else e
  | .active => e

end Sys2Proof.Machine
end

