-- ==== Sys2Proof/Machine/Attribution.lean ====
section
/-! DEFINITION. Attribution (5.3) and the opening of trip incidents: the look-back of R88, late attachment (R89), the
attachment of R90, and the records of R86 and R87. Times are compared by their ages at the present moment, so the wrap of
part time does not disturb the comparison (log 27). -/

namespace Sys2Proof.Machine

open Sys2Proof

/-- R90: an attachment, taken whole: listing, count, pole-down order, gate 3, report. -/
def Ev.attach (e : Ev) (i : SecNo) (number vehicle : Nat) (f : FaultCode) (located : Bool) : Ev :=
  match e.s.record? number with
  | none => e
  | some r =>
    let entry : Attributed := ⟨vehicle, f, located, e.s.partTime⟩
    let room := r.vehicles.length < attributedPlaces
    let listed := if room then
        e.mod fun s => (s.modRecord number fun r => { r with vehicles := r.vehicles ++ [entry] }).countUp vehicle
      else e.mod fun s => s.modRecord number fun r => { r with more := true }
    let ordered := listed.mod fun s => s.requestPolesDown vehicle number
    let gated := if (ordered.s.sec i).ctl.incident = some number then ordered.reevaluate i .vehicles else ordered
    gated.reportIncident number (if room then .attached entry else .more vehicle f)

/-- R88: the better of two qualifying faults: the earlier first report, and for equal times the first in code order. -/
def earlierFault (now : PartTime) (a b : FaultCode × PartTime) : FaultCode × PartTime :=
  if elapsed now a.2 < elapsed now b.2 then b
  else if elapsed now a.2 = elapsed now b.2 ∧ b.1.code.toNat < a.1.code.toNat then b
  else a

/-- R88: the line-affecting fault with the earliest first-report time among those no older than `age`. -/
def Vehicle.qualifying (v : Vehicle) (now : PartTime) (age : Nat) : Option (FaultCode × PartTime) :=
  match v.faults.filter fun f => f.1.lineAffecting && elapsed now f.2 ≤ age with
  | [] => none
  | f :: fs => some (fs.foldl (earlierFault now) f)

/-- R88: a vehicle of the look-back with its qualifying fault. -/
structure Blamed where
  vehicle : Nat
  located : Bool
  fault   : FaultCode
  age     : Nat
  deriving DecidableEq, Repr

/-- R88: earliest fault first, then ascending vehicle number. -/
abbrev Blamed.before (a b : Blamed) : Prop := b.age < a.age ∨ (b.age = a.age ∧ a.vehicle ≤ b.vehicle)

/-- R88, R110: put one vehicle in its place in the order of the look-back. -/
def insertBlamed (b : Blamed) : List Blamed → List Blamed
  | [] => [b]
  | c :: cs => if b.before c then b :: c :: cs else c :: insertBlamed b cs

/-- R88, R110: the vehicles of the look-back for a section, in the order they are attached. -/
def State.lookBack (s : State) (i : SecNo) : List Blamed :=
  (s.vehicles.entries.filterMap fun v =>
    if v.admitted && (v.loc == some i || v.loc == none) then
      (v.qualifying s.partTime (s.settings.corrWindow * 100)).map fun f =>
        ⟨v.number, v.loc == some i, f.1, elapsed s.partTime f.2⟩
    else none).foldr insertBlamed []

/-- R86: open a trip incident for a section now, make it the section's current incident and look back. -/
def Ev.openTrip (e : Ev) (i : SecNo) (k : TripKind) (c : Option Captured) : Ev :=
  let n := e.s.incidents.next
  let r : Incident :=
    { number := n, kind := k.incKind, object := .sec i, detail := none, opened := e.s.stamp, state := .opened,
      outcome := none, closed := none, window := some ⟨e.s.partTime, e.s.settings.corrWindow * 100⟩, captured := c,
      tripCount := 1, lastTrip := some (k, e.s.partTime), shots := [], vehicles := [], more := false }
  let e := (e.addIncident r).mod fun s => s.modCtl i fun x => { x with incident := some n }
  (e.s.lookBack i).foldl (fun e b => e.attach i n b.vehicle b.fault b.located) e

/-- R8, R86, R92: a trip continues the current incident while it is OPEN or HELD, and opens one otherwise. -/
def Ev.recordTrip (e : Ev) (i : SecNo) (k : TripKind) (c : Option Captured) : Ev :=
  match e.s.liveIncident i with
  | some r => e.continueTrip r.number k c
  | none => e.openTrip i k c

/-- R87: a close against lock opens a TRIP_COMMANDED record, HELD at once. -/
def Ev.openCommanded (e : Ev) (i : SecNo) : Ev :=
  let n := e.s.incidents.next
  let r : Incident :=
    { number := n, kind := .tripCommanded, object := .sec i, detail := none, opened := e.s.stamp, state := .held,
      outcome := none, closed := none, window := none, captured := none, tripCount := 1,
      lastTrip := some (.commanded, e.s.partTime), shots := [], vehicles := [], more := false }
  (e.addIncident r).mod fun s => s.modCtl i fun x => { x with incident := some n }

/-- R89: the OPEN incidents of a section. -/
def State.openIncidents (s : State) (i : SecNo) : List Incident :=
  s.incidents.records.filter fun r => r.object == .sec i && r.state == .opened

/-- R89: how old a fault may be to fall in an incident's window: its opening age plus CorrWindow. -/
def Incident.reach (r : Incident) (now : PartTime) : Nat :=
  elapsed now r.opened.part + (match r.window with | none => 0 | some w => w.span)

/-- R89: the fault a notice puts to an incident: the new fault, or for an admission the earliest qualifying one. -/
def Vehicle.faultFor (v : Vehicle) (now : PartTime) (r : Incident) : Option FaultCode → Option FaultCode
  | some f =>
    if v.faults.any fun g => g.1 == f && elapsed now g.2 ≤ r.reach now then some f else none
  | none => (v.qualifying now (r.reach now)).map Prod.fst

/-- R89: a notice from the vehicle tracker: a new line-affecting fault (`new`), or an admission (`none`). The OPEN
incidents are gone through in ascending section order. -/
def Ev.lateAttach (e : Ev) (vehicle : Nat) (new : Option FaultCode) : Ev :=
  e.forSecs fun e i =>
    (e.s.openIncidents i).foldl (fun e r =>
      match e.s.vehicle? vehicle with
      | none => e
      | some v =>
        if (v.loc == some i || v.loc == none) && !(r.vehicles.any fun a => a.vehicle == vehicle) then
          match v.faultFor e.s.partTime r new with
          | none => e
          | some f => e.attach i r.number vehicle f (v.loc == some i)
        else e) e

/-- R91: the window of an OPEN incident closes. -/
def Ev.windowClosed (e : Ev) (number : Nat) : Ev :=
  match e.s.record? number with
  | none => e
  | some r =>
    let e := e.mod fun s => s.modRecord number fun r => { r with state := .held, window := none }
    let e := match r.object with
      | .sec i => if (e.s.sec i).ctl.incident = some number then e.reevaluate i .window else e
      | _ => e
    e.reportIncident number .windowClosed

end Sys2Proof.Machine
end

