-- ==== Sys2Proof/Machine/Points.lean ====
section
/-! DEFINITION. The point supervisor (07): position reports, passages, the request queue and its head, throws, locks,
obstructions and clearing. Location notices go to the vehicle tracker (R107). -/

namespace Sys2Proof.Machine

open Sys2Proof

/-- The position of a leg. -/
def Leg.pos : Leg → PointPos
  | .straight => .straight
  | .diverging => .diverging

/-- The blade report of a leg. -/
def Leg.blade : Leg → Blade
  | .straight => .straight
  | .diverging => .diverging

/-- The position a confirmed blade report stands for. -/
def Blade.pos : Blade → PointPos
  | .straight => .straight
  | .diverging => .diverging
  | .mid => .unknown

/-- Change a point's counters. -/
def Point.count (x : Point) (f : PointCounters → PointCounters) : Point := { x with counters := f x.counters }

/-- Change the supervisor's counters. -/
def State.modSupervisor (s : State) (f : SupervisorCounters → SupervisorCounters) : State :=
  { s with supervisor := f s.supervisor }

/-- R128: the body of a ROUTE_GRANT. -/
def grantBody (vehicle : Nat) (p : PointNo) (l : Leg) : List Byte := be16 vehicle ++ be8 (pointNum p) ++ [l.code]

/-- R128: the body of a ROUTE_REFUSE. -/
def refuseBody (vehicle : Nat) (p : PointNo) (l : Leg) (r : RouteReason) : List Byte := grantBody vehicle p l ++ [r.code]

/-- R128: a route telegram to the gateway, or a count where there is no gateway. -/
def State.routeTelegram (s : State) (kind : Byte) (body : List Byte) : State :=
  if s.settings.gateway = 0 then s.modSupervisor fun c => { c with noGateway := inc16 c.noGateway }
  else s.pushNormal .field (s.telegram s.settings.gateway kind body)

/-- R128: refuse a request of a point; every refusal is counted. -/
def State.refuse (s : State) (p : PointNo) (vehicle : Nat) (l : Leg) (r : RouteReason) : State :=
  (s.routeTelegram kRouteRefuse (refuseBody vehicle p l r)).modPoint p fun x =>
    x.count fun c => { c with refusals := inc16 c.refusals }

/-- R121, R130, R132, R136: refuse every request of a point, oldest first, and empty its queue. -/
def State.refuseAll (s : State) (p : PointNo) (r : RouteReason) : State :=
  ((s.point p).queue.foldl (fun s q => s.refuse p q.vehicle q.leg r) s).modPoint p fun x => { x with queue := [] }

/-- R127: grant the head `q` of a point's queue. -/
def State.grant (s : State) (p : PointNo) (q : Request) (rest : List Request) : State :=
  (s.routeTelegram kRouteGrant (grantBody q.vehicle p q.leg)).modPoint p fun x =>
    { x.count fun c => { c with grants := inc16 c.grants } with
      queue := { q with granted := some s.partTime, life := ⟨s.partTime, s.settings.requestLife * 1000⟩ } :: rest }

/-- R129: make a throw. -/
def State.throwPoint (s : State) (p : PointNo) (l : Leg) (o : ThrowOrigin) : State :=
  (s.pushNormal .field (s.telegram (s.pointEntry p).motor kPointThrow [l.code])).modPoint p fun x =>
    { x.count fun c => { c with throws := inc16 c.throws } with
      activity := .throwing, motion := some ⟨l, o, ⟨s.partTime, (s.pointEntry p).throwTime * 100⟩⟩ }

/-- R129: the conditions of a throw: occupancy 0, COUNT_ERROR clear, no obstruction, the supply section LIVE, AT_REST,
and a mode other than OBSERVE. -/
def State.throwAllowed (s : State) (p : PointNo) : Bool :=
  let x := s.point p
  x.occupancy == 0 && !x.countError && x.obstruction.isNone && (s.sec (s.pointEntry p).supply).ctl.state == .live
    && x.activity == .atRest && s.mode != .observe

/-- R125: serve the head: `q` is the queue to be judged, the head first. Heads are refused one after another until the
queue is empty or a head waits, is granted, or has a throw made for it. -/
def State.serveQueue (s : State) (p : PointNo) : List Request → State
  | [] => s
  | h :: rest =>
    let x := s.point p
    let refuseHead (r : RouteReason) : State :=
      ((s.refuse p h.vehicle h.leg r).modPoint p fun x => { x with queue := rest }).serveQueue p rest
    if x.activity = .throwing then s
    else if x.activity = .failed then refuseHead .failed
    else if x.obstruction.isSome then refuseHead .obstructed
    else if x.lock.any (· != h.leg) then refuseHead .locked
    else if x.position = h.leg.pos then (if h.granted.isSome then s else s.grant p h rest)
    else if !x.supplyLive || x.occupancy != 0 || x.countError then s
    else if s.throwAllowed p then s.throwPoint p h.leg .vehicle
    else s

/-- R125: serve the head of a point's queue. -/
def State.serve (s : State) (p : PointNo) : State := s.serveQueue p (s.point p).queue

/-- R107: a location notice from a clear passage. -/
def Ev.locate (e : Ev) (vehicle : Nat) (p : PointNo) (loc : Option SecNo) : Ev :=
  match e.s.vehicle? vehicle with
  | none => e
  | some v =>
    let v' := { v with loc := loc, source := .point, lastPoint := some (p, e.s.partTime) }
    let e := e.mod fun s => s.modVehicle vehicle fun _ => v'
    if v.admitted && v.loc != loc then
      e.vehicleReport (e.s.report kVehicleReport (v'.reportBody false true false))
    else e

/-! ### Position reports -/

/-- R121: a FAULT report. -/
def State.pointFault (s : State) (p : PointNo) : State :=
  if (s.point p).activity = .failed then s
  else (s.modPoint p fun x => { x with activity := .failed, failure := some .faultReported, position := .unknown,
                                       candidate := none, motion := none }).refuseAll p .failed

/-- R120: a confirmed report in THROWING. -/
def Ev.confirmThrowing (e : Ev) (p : PointNo) (b : Blade) (m : Motion) : Ev :=
  if b = m.leg.blade then
    (e.mod fun s => s.modPoint p fun x => { x with position := m.leg.pos, activity := .atRest, motion := none }).serveHead p
  else e.mod fun s => s.modPoint p fun x => { x with position := b.pos }

/-- R120: a confirmed report AT_REST. A granted head loses its grant to an unsolicited change of position. -/
def Ev.confirmAtRest (e : Ev) (p : PointNo) (b : Blade) : Ev :=
  if (e.s.point p).position = b.pos then e
  else
    let e := e.mod fun s => s.modPoint p fun x => { x with position := b.pos }
    let e := match (e.s.point p).queue with
      | h :: rest => if h.granted.isSome then
          e.mod fun s => (s.refuse p h.vehicle h.leg .positionLost).modPoint p fun x => { x with queue := rest }
        else e
      | [] => e
    e.serveHead p

/-- R119: a report of STRAIGHT, DIVERGING or MID runs the confirmation pair. -/
def Ev.bladeReport (e : Ev) (p : PointNo) (b : Blade) : Ev :=
  let x := e.s.point p
  if x.activity = .failed then e
  else if x.candidate = some b then
    match x.activity, x.motion with
    | .throwing, some m => e.confirmThrowing p b m
    | _, _ => e.confirmAtRest p b
  else e.mod fun s => s.modPoint p fun x => { x with candidate := some b }

/-! ### Passages -/

/-- R122: an APPROACH passage. -/
def Point.approach (x : Point) : Point :=
  if x.occupancy < 3 then { x with occupancy := x.occupancy + 1 } else { x with countError := true }

/-- R122: the occupancy after a CLEAR passage. -/
def Point.leave (x : Point) : Point :=
  if 0 < x.occupancy then { x with occupancy := x.occupancy - 1 } else { x with countError := true }

/-- R123: what remains of a queue after a CLEAR passage with a vehicle number, or 0. -/
def clearQueue (vehicle : Nat) (q : List Request) : List Request :=
  let q := match q with
    | h :: rest => if h.granted.isSome && (vehicle == 0 || h.vehicle == vehicle) then rest else q
    | [] => []
  if vehicle = 0 then q else q.filter fun r => r.vehicle != vehicle

/-- R123: the section a clear passage leads to. -/
def State.outSection (s : State) (p : PointNo) : Option SecNo :=
  match (s.point p).position with
  | .straight => (s.pointEntry p).straight
  | .diverging => (s.pointEntry p).diverging
  | .unknown => none

/-- R123: a CLEAR passage: occupancy, consumption, removal, location, service. -/
def Ev.clearPassage (e : Ev) (p : PointNo) (vehicle : Nat) : Ev :=
  let x := e.s.point p
  let q := clearQueue vehicle x.queue
  let e' := e.mod fun s => s.modPoint p fun x => { x.leave with queue := q }
  let e' := if vehicle = 0 then e' else e'.locate vehicle p (e'.s.outSection p)
  if q.head?.map Request.vehicle ≠ x.queue.head?.map Request.vehicle ∨ x.occupancy = 1 then e'.serveHead p else e'

/-! ### Route requests -/

/-- R127: a repeat of a request that is in the queue: `first` says that it is the head. -/
def Ev.repeatRequest (e : Ev) (p : PointNo) (first : Bool) (q : Request) (l : Leg) : Ev :=
  let s := e.s
  let put (q' : Request) (s : State) : State :=
    s.modPoint p fun x => { x with queue := x.queue.map fun r => if r.vehicle == q.vehicle then q' else r }
  let renewed : Request :=
    { q with arrival := s.partTime, leg := l, life := ⟨s.partTime, s.settings.requestLife * 1000⟩ }
  if q.granted.isSome && q.leg == l then
    e.mod fun s => (s.routeTelegram kRouteGrant (grantBody q.vehicle p l)).modPoint p fun x =>
      { x with queue := x.queue.map fun r =>
          if r.vehicle == q.vehicle then { renewed with granted := some s.partTime } else r }
  else
    let e := e.mod (put { renewed with granted := none })
    if first && q.leg != l then e.serveHead p else e

/-- R124: a request from a vehicle for a point and a leg. -/
def Ev.routeRequest (e : Ev) (vehicle : Nat) (p : PointNo) (l : Leg) : Ev :=
  let x := e.s.point p
  if e.s.mode = .observe then e.mod fun s => s.modSupervisor fun c => { c with droppedObserve := inc16 c.droppedObserve }
  else if !(e.s.pointEntry p).active then e.mod fun s => s.refuse p vehicle l .outOfService
  else if x.activity = .failed then e.mod fun s => s.refuse p vehicle l .failed
  else match x.queue.find? fun q => q.vehicle == vehicle with
    | some q => e.repeatRequest p (x.queue.head?.any fun h => h.vehicle == vehicle) q l
    | none =>
      if requestPlaces ≤ x.queue.length then e.mod fun s => s.refuse p vehicle l .queueFull
      else
        let e := e.mod fun s => s.modPoint p fun x =>
          { x.count fun c => { c with queued := inc16 c.queued } with
            queue := x.queue ++ [⟨vehicle, l, s.partTime, none, ⟨s.partTime, s.settings.requestLife * 1000⟩⟩] }
        if x.queue.isEmpty then e.serveHead p else e

/-- R127: a request's life expiry is taken. -/
def Ev.requestExpired (e : Ev) (p : PointNo) (q : Request) : Ev :=
  let first := (e.s.point p).queue.head?.any fun h => h.vehicle == q.vehicle
  let e := e.mod fun s => (s.refuse p q.vehicle q.leg .expired).modPoint p fun x =>
    { x with queue := x.queue.filter fun r => r.vehicle != q.vehicle }
  if first then e.serveHead p else e

/-- R130: the throw expiry: the point fails. -/
def Ev.throwFailed (e : Ev) (p : PointNo) : Ev :=
  let r : PointFailReason := if (e.s.point p).supplyLive then .timeout else .supplyLost
  let e := e.mod fun s => s.modPoint p fun x =>
    { x.count fun c => { c with failures := inc16 c.failures } with
      activity := .failed, failure := some r, position := .unknown, candidate := none, motion := none }
  (e.recordClosed .pointFailure (.point p) (some (.point r)) none).mod fun s => s.refuseAll p .failed

/-! ### Obstructions -/

/-- R132: an obstruction notice, set. -/
def Ev.obstruct (e : Ev) (p : PointNo) (vehicle : Nat) : Ev :=
  if !(e.s.pointEntry p).active || (e.s.point p).obstruction == some vehicle then e
  else e.mod fun s => (s.modPoint p fun x => { x with obstruction := some vehicle }).refuseAll p .obstructed

/-- R132: an obstruction notice, cleared. -/
def Ev.unobstruct (e : Ev) (p : PointNo) (vehicle : Nat) : Ev :=
  if (e.s.pointEntry p).active && (e.s.point p).obstruction == some vehicle then
    (e.mod fun s => s.modPoint p fun x => { x with obstruction := none }).serveHead p
  else e

/-! ### Commands to points -/

/-- R133: the checks of POINT_SET; `modeToo` says whether the mode check is made (R149). -/
def State.judgePointSet (s : State) (p : PointNo) (l : Leg) (modeToo : Bool) : Result :=
  let x := s.point p
  if !(s.pointEntry p).active then .refusedState
  else if x.activity = .throwing ∨ x.activity = .failed then .refusedState
  else if x.position = l.pos then .done
  else if x.occupancy != 0 || x.countError || x.obstruction.isSome || !x.supplyLive
      || x.queue.head?.any (fun h => h.granted.isSome) || x.lock.any (· != l) then .refusedInterlock
  else if modeToo && s.mode == .observe then .refusedState
  else .accepted

/-- R133: POINT_SET. -/
def Ev.pointSet (e : Ev) (p : PointNo) (l : Leg) : Ev × Result :=
  let r := e.s.judgePointSet p l true
  (if r = .accepted then e.mod fun s => s.throwPoint p l .control else e, r)

/-- R134: POINT_LOCK. -/
def Ev.pointLock (e : Ev) (p : PointNo) (l : Leg) : Ev × Result :=
  let x := e.s.point p
  if !(e.s.pointEntry p).active then (e, .refusedState)
  else if x.activity = .throwing ∨ x.activity = .failed then (e, .refusedState)
  else if x.lock = some l then (e, .done)
  else if x.position ≠ l.pos then (e, .refusedInterlock)
  else ((e.mod fun s => s.modPoint p fun x => { x with lock := some l }).serveHead p, .done)

/-- R134: POINT_UNLOCK. -/
def Ev.pointUnlock (e : Ev) (p : PointNo) : Ev × Result :=
  if !(e.s.pointEntry p).active then (e, .refusedState)
  else if (e.s.point p).lock.isNone then (e, .done)
  else ((e.mod fun s => s.modPoint p fun x => { x with lock := none }).serveHead p, .done)

/-- R135: what POINT_CLEAR makes of a point. -/
def Point.cleared (x : Point) : Point :=
  let x := { x with occupancy := 0, countError := false, obstruction := none }
  if x.activity = .failed then { x with activity := .atRest, failure := none, position := .unknown, candidate := none }
  else x

/-- R135: POINT_CLEAR. -/
def Ev.pointClear (e : Ev) (p : PointNo) : Ev × Result :=
  if !(e.s.pointEntry p).active || (e.s.point p).activity == .throwing then (e, .refusedState)
  else ((e.mod fun s => s.modPoint p Point.cleared).serveHead p, .done)

/-! ### Entries -/

/-- R118: a point entry is made active: cold-restart values, the counters with them (DESIGN CHOICE; log 41), and supply
live read now. -/
def State.activatePoint (s : State) (p : PointNo) : State :=
  s.modPoint p fun _ => { coldPoint with supplyLive := (s.sec (s.pointEntry p).supply).ctl.state == .live }

/-- R118: a point entry is made inactive: its queue is refused and the record takes the cold-restart values, the counters
with them (DESIGN CHOICE; log 41). -/
def State.dropPoint (s : State) (p : PointNo) : State := (s.refuseAll p .outOfService).modPoint p fun _ => coldPoint

end Sys2Proof.Machine
end

