-- ==== Sys2Proof/Machine/Station.lean ====
section
/-! DEFINITION. The station (1.7): its position and what it does to the sections (R20), backup trips (R21), the commands
of R22 and R23, and the station's expiries. -/

namespace Sys2Proof.Machine

open Sys2Proof

/-- Set the station's state and reason together; its pending order is cleared or replaced by the caller. -/
def State.setStation (s : State) (st : StState) (r : StReason) : State :=
  s.modStation fun t => { t with state := st, reason := r }

/-- Set the station's pending order. -/
def State.setStationPending (s : State) (p : Option PendingOrder) : State := s.modStation fun t => { t with pending := p }

/-- R68, gate 6: whatever changes the station state has gate 6 of each GATING section judged anew, once the station's
own changes are made. -/
def Ev.withStation (e : Ev) (f : Ev → Ev) : Ev :=
  let e' := f e
  if e'.s.station.state = e.s.station.state then e' else e'.forSecs fun e i => e.reevaluate i .station

/-- R20: the states the station opening moves to DEAD. -/
def SecState.opensWithStation : SecState → Bool
  | .live | .closing | .opening | .waiting | .testing => true
  | .dead | .tripping | .lockedOut | .isolated => false

/-- R20: the station position has become OPEN, for one section. -/
def Ev.stationOpened (e : Ev) (i : SecNo) : Ev :=
  let c := (e.s.sec i).ctl
  if c.state.opensWithStation then
    let e := e.mod fun s =>
      let s := if c.pending.any PendingOrder.usesLine then s.releaseLine i else s
      ((s.setSec i .dead .stationOpen).setPending i none).withdraw (.sec i)
    (e.closeIncident i .stationOpen).cancelSequence i
  else e

/-- R20: the station position has become CLOSED, for one section. -/
def Ev.stationClosed (e : Ev) (i : SecNo) : Ev :=
  if (e.s.secEntry i).active && (e.s.sec i).ctl.state == .dead && (e.s.sec i).ctl.position == .closed then
    e.mod fun s => s.setSec i .live .stationClosed
  else e

/-- R20: the station position is recorded, with its effects on the sections. -/
def Ev.stationPosition (e : Ev) (p : Position) : Ev :=
  let e' := e.mod fun s => s.modStation fun t => { t with position := p }
  if e.s.station.position = p then e'
  else match p with
    | .opened => e'.forSecs Ev.stationOpened
    | .closed => e'.forSecs Ev.stationClosed
    | .unknown => e'

/-- R19: the station enters FAILED. -/
def Ev.stationFails (e : Ev) : Ev :=
  (e.mod fun s => (s.setStation .failed .failed).setStationPending none).recordClosed .stationFailure .station none none

/-- R22: a station close ends without confirmation. -/
def Ev.stationCloseFails (e : Ev) : Ev :=
  e.mod fun s => ((s.setStation .opened .closeFailed).setStationPending none).withdraw .station

/-- R21, R22: a station trip or open is confirmed. -/
def Ev.stationConfirmed (e : Ev) : Ev :=
  let p := e.s.station.pending
  e.mod fun s =>
    let s := if p.any PendingOrder.usesLine then s.releaseStationLine else s
    (s.setStation .opened (if p.any (fun o => o.origin == .backup) then .backupTrip else s.station.reason)).setStationPending
      none

/-- R19: what a station report does by the station's state, its position already recorded. -/
def Ev.judgeStationReport (e : Ev) (st : StState) (r : Report) : Ev :=
  match st, r with
  | .opened, .closed => e.mod fun s => s.setStation .closed .localClose
  | .opened, .failed => e.stationFails
  | .opened, .opened | .opened, .trippedLocal => e
  | .closed, .opened => e.mod fun s => s.setStation .opened .localOpen
  | .closed, .trippedLocal => e.mod fun s => s.setStation .opened .localTrip
  | .closed, .failed => e.stationFails
  | .closed, .closed => e
  | .closing, .opened | .closing, .trippedLocal => e.stationCloseFails
  | .closing, .closed => e.mod fun s => (s.setStation .closed .commandedClose).setStationPending none
  | .closing, .failed => e.stationFails
  | .tripping, .opened | .tripping, .trippedLocal => e.stationConfirmed
  | .tripping, .closed => e
  | .tripping, .failed => e.stationFails
  | .failed, _ => e

/-- R3, R19: a position report for the station breaker. -/
def Ev.stationReport (e : Ev) (r : Report) : Ev :=
  e.withStation fun e =>
    let st := e.s.station.state
    let e := match r with
      | .opened | .trippedLocal => e.stationPosition .opened
      | .closed => if st = StState.tripping then e else e.stationPosition .closed
      | .failed => e
    e.judgeStationReport st r

/-- R21: a backup trip is running. -/
def Station.backupRunning (t : Station) : Bool :=
  t.state == .tripping && t.pending.any fun o => o.origin == .backup

/-- R21, R188: a backup trip request; an inactive station entry has no BREAKER_TRIP queued. -/
def Ev.requestBackup (e : Ev) : Ev :=
  let t := e.s.station
  if t.position = .opened ∨ t.state = .failed ∨ t.backupRunning = true then e
  else e.withStation fun e => e.mod fun s =>
    let s := if s.tables.station.active then s.queueOrder .station .trip else s
    (s.assertStationLine.setStationPending (some (s.order .trip .backup none true))).setStation .tripping .backupTrip

/-- R22: the interlock of STATION_CLOSE. -/
def State.failureHeld (s : State) : Bool :=
  s.secs.toList.any fun x => x.ctl.state == .lockedOut && x.ctl.reason == .breakerFailure && x.ctl.tripLine

/-- R22, R188: the checks of STATION_CLOSE; `modeToo` says whether the mode check is made (R149). -/
def State.judgeStationClose (s : State) (modeToo : Bool) : Result :=
  if !s.tables.station.active then .refusedState
  else match s.station.state with
    | .closed => .done
    | .failed | .closing | .tripping => .refusedState
    | .opened =>
      if s.failureHeld then .refusedInterlock
      else if modeToo && s.mode == .observe then .refusedState
      else .accepted

/-- R22: STATION_CLOSE. -/
def Ev.stationClose (e : Ev) : Ev × Result :=
  let r := e.s.judgeStationClose true
  if r = .accepted then
    (e.withStation fun e => e.mod fun s =>
      ((s.queueOrder .station .close).setStationPending (some (s.order .close .command none false))).setStation
        .closing .commandedClose, r)
  else (e, r)

/-- R22, R188: the checks of STATION_OPEN; in OBSERVE it is refused whatever the station's state. `modeToo` says whether
the mode check is made (R149). -/
def State.judgeStationOpen (s : State) (modeToo : Bool) : Result :=
  if !s.tables.station.active || (modeToo && s.mode == .observe) then .refusedState
  else match s.station.state with
    | .closed | .closing => .accepted
    | .opened => if s.station.position = .opened then .done else .refusedState
    | .failed | .tripping => .refusedState

/-- R22: STATION_OPEN of kind OPEN or TRIP. -/
def Ev.stationOpen (e : Ev) (trip : Bool) : Ev × Result :=
  let r := e.s.judgeStationOpen true
  if r = .accepted then
    (e.withStation fun e => e.mod fun s =>
      let k : OrderKind := if trip then .trip else .opening
      let s := s.queueOrder .station k
      let s := if trip then s.assertStationLine else s
      (s.setStationPending (some (s.order k .command none trip))).setStation .tripping
        (if trip then .commandedTrip else .commandedOpen), r)
  else (e, r)

/-- R23: STATION_RESET. -/
def Ev.stationReset (e : Ev) : Ev × Result :=
  if e.s.station.state = .failed then
    (e.withStation fun e => e.mod fun s =>
      (s.setStation (if s.station.position = .closed then StState.closed else .opened) .reset).releaseStationLine, .done)
  else (e, .refusedState)

/-- Whether the station's pending order is due now, in a state and from an origin. -/
def State.stationDue (s : State) (st : StState) (o : Origin) : Bool :=
  s.station.state == st && s.station.pending.any fun p => p.origin == o && p.expiry.due s.partTime

/-- R22: the CloseConfirmTime expiry of the station. -/
def Ev.stationCloseExpiry (e : Ev) : Ev :=
  if e.s.stationDue .closing .command then e.withStation Ev.stationCloseFails else e

/-- R22: the expiry of a commanded station open. -/
def Ev.stationOpenExpiry (e : Ev) : Ev :=
  if e.s.stationDue .tripping .command then
    e.withStation fun e =>
      let p := e.s.station.pending
      (e.mod fun s =>
        let s := if p.any PendingOrder.usesLine then s.releaseStationLine else s
        (s.setStation (if s.station.position = .closed then StState.closed else .opened) .openFailed).setStationPending
          none).recordClosed .breakerFailure .station (some (.cause .openExpiry)) none
  else e

/-- R21: the expiry of a backup trip. -/
def Ev.backupTripExpiry (e : Ev) : Ev :=
  if e.s.stationDue .tripping .backup then e.withStation Ev.stationFails else e

end Sys2Proof.Machine
end

