-- ==== Sys2Proof/Machine/Sections.lean ====
section
/-! DEFINITION. The section controller (01): trips and their confirmation (R8 to R10), closing and opening (R11 to R15),
unsolicited reports and close against lock (R16, R17), breaker failure (R18), reset, isolation and release (R24, R25), and
the derivation of R173. A close asked for by the reclose unit (R12) is in Machine/Reclose.lean. -/

namespace Sys2Proof.Machine

open Sys2Proof

/-- R8, R10: CLOSING for a reclose shot. -/
def SectionCtl.reclosing (c : SectionCtl) : Bool := c.state == .closing && c.pending.any fun p => p.origin == .reclose

/-- R8: a trip decision. -/
def Ev.tripDecision (e : Ev) (i : SecNo) (d : Decision) : Ev :=
  let c := (e.s.sec i).ctl
  if e.s.mode != .observe && (e.s.secEntry i).active && c.state.trippable then
    let e := e.mod fun s =>
      ((((s.queueOrder (.sec i) .trip).assertLine i).setPending i
        (some (s.order .trip .protection (some d.kind) true))).setSec i .tripping d.kind.reason)
    let e := e.recordTrip i d.kind (some d.captured)
    if c.reclosing then e.retripped i else e.tripInReclaim i
  else e

/-- R9, second and third cases: a trip is confirmed. -/
def Ev.trippedOpen (e : Ev) (i : SecNo) (k : Option TripKind) : Ev :=
  if e.s.station.position = .closed then e.tripConfirmed i k
  else ((e.mod fun s => s.setSec i .dead .stationOpen).closeIncident i .stationOpen).cancelSequence i

/-- R9: an OPEN or TRIPPED_LOCAL report in TRIPPING. -/
def Ev.confirmTrip (e : Ev) (i : SecNo) : Ev :=
  let c := (e.s.sec i).ctl
  let e := e.mod fun s => (s.releaseLine i).setPending i none
  if c.pending.any (fun p => p.origin == .lock) then
    match c.former with
    | some (st, r) =>
      (e.mod fun s => (s.setSec i st r).modCtl i fun c => { c with former := none }).closeIncident i .recorded
    | none => e
  else e.trippedOpen i (c.pending.bind PendingOrder.kind)

/-- R10: a TRIPPED_LOCAL report in LIVE or CLOSING. -/
def Ev.localTrip (e : Ev) (i : SecNo) : Ev :=
  let c := (e.s.sec i).ctl
  let e := e.mod fun s => s.setPending i none
  let e := if c.reclosing then e.retripped i else e.tripInReclaim i
  (e.recordTrip i .localTrip none).trippedOpen i (some .localTrip)

/-- R11: the checks of SECTION_CLOSE; `modeToo` says whether the mode check is made (R149). -/
def State.judgeClose (s : State) (i : SecNo) (modeToo : Bool) : Result :=
  if !(s.secEntry i).active then .refusedState
  else if (s.sec i).ctl.state = .live then .done
  else if (s.sec i).ctl.state ≠ .dead then .refusedState
  else if s.station.state ≠ .closed ∨ (s.sec i).sel.state = .blind ∨ s.belowHalf i = false then .refusedInterlock
  else if modeToo && s.mode == .observe then .refusedState
  else .accepted

/-- R11: SECTION_CLOSE. The conditions of R5 are checked again when the order would be queued. -/
def Ev.sectionClose (e : Ev) (i : SecNo) : Ev × Result :=
  let r := e.s.judgeClose i true
  if r = .accepted then
    if e.s.closeAllowed i then
      (e.mod fun s => ((s.queueOrder (.sec i) .close).setPending i (some (s.order .close .command none false))).setSec i
        .closing .commandedClose, r)
    else (e, .refusedInterlock)
  else (e, r)

/-- R13: a CLOSED report in CLOSING. -/
def Ev.confirmClose (e : Ev) (i : SecNo) : Ev :=
  let reclosing := (e.s.sec i).ctl.reclosing
  let e := e.mod fun s => (s.setSec i .live (if reclosing then .reclosed else .commandedClose)).setPending i none
  if reclosing then e.closeConfirmed i else e

/-- R13: an OPEN report or the expiry in CLOSING. -/
def Ev.closeFails (e : Ev) (i : SecNo) : Ev :=
  let reclosing := (e.s.sec i).ctl.reclosing
  let e := e.mod fun s => (s.setPending i none).withdraw (.sec i)
  if reclosing then e.shotFailed i .closeFailed else e.mod fun s => s.setSec i .dead .closeFailed

/-- R14: the checks of SECTION_OPEN; `modeToo` says whether the mode check is made (R149). -/
def State.judgeOpen (s : State) (i : SecNo) (modeToo : Bool) : Result :=
  if !(s.secEntry i).active then .refusedState
  else
    let moded : Result := if modeToo && s.mode == .observe then .refusedState else .accepted
    match (s.sec i).ctl.state with
    | .live | .closing => moded
    | .dead => if (s.sec i).ctl.position = .opened then .done else moded
    | .waiting | .testing => .done
    | .opening | .tripping | .lockedOut | .isolated => .refusedState

/-- R14, R76, R79: a rule of the section controller takes a section out of its sequence, if it is in one, closing its
incident with an outcome. -/
def Ev.leaveSequence (e : Ev) (i : SecNo) (o : IncOutcome) : Ev :=
  if (e.s.sec i).rcl.phase = .idle then e else (e.closeIncident i o).cancelSequence i

/-- R14: SECTION_OPEN of kind OPEN or TRIP. -/
def Ev.sectionOpen (e : Ev) (i : SecNo) (trip : Bool) : Ev × Result :=
  let r := e.s.judgeOpen i true
  match r with
  | .accepted =>
    let e := e.mod fun s =>
      let k : OrderKind := if trip then .trip else .opening
      let s := s.queueOrder (.sec i) k
      let s := if trip then s.assertLine i else s
      (s.setPending i (some (s.order k .command none trip))).setSec i .opening
        (if trip then .commandedTrip else .commandedOpen)
    (e.leaveSequence i .cancelled, r)
  | .done =>
    match (e.s.sec i).ctl.state with
    | .waiting | .testing =>
      (((e.mod fun s => s.setSec i .dead .commandedOpen).closeIncident i .cancelled).cancelSequence i, r)
    | _ => (e, r)
  | _ => (e, r)

/-- R15: an OPEN or TRIPPED_LOCAL report in OPENING. -/
def State.confirmOpen (s : State) (i : SecNo) : State :=
  let s' := if (s.sec i).ctl.pending.any PendingOrder.usesLine then s.releaseLine i else s
  (s'.setPending i none).setSec i .dead .commandedOpen

/-- R15: the TripConfirmTime expiry in OPENING. -/
def Ev.openFails (e : Ev) (i : SecNo) : Ev :=
  let e := e.mod fun s =>
    let s' := if (s.sec i).ctl.pending.any PendingOrder.usesLine then s.releaseLine i else s
    (s'.setPending i none).setSec i (if s.bothClosed i then .live else .dead) .openFailed
  e.recordClosed .breakerFailure (.sec i) (some (.cause .openExpiry)) none

/-- R16, R18: a section locks out for breaker failure. -/
def Ev.breakerLockout (e : Ev) (i : SecNo) (c : FailCause) : Ev :=
  let e := e.mod fun s => ((s.setSec i .lockedOut .breakerFailure).setPending i none).modCtl i fun c =>
    { c with former := none }
  ((e.closeIncident i .lockedOut).cancelSequence i).recordClosed .breakerFailure (.sec i) (some (.cause c)) none

/-- R18: a breaker failure with backup. -/
def Ev.breakerFailure (e : Ev) (i : SecNo) (c : FailCause) : Ev :=
  let e := if (e.s.sec i).ctl.state = .live then e.mod fun s => s.assertLine i else e
  let e := e.breakerLockout i c
  if e.s.mode = .observe then e else e.requestBackup

/-- R17: a CLOSED report for a section in LOCKED_OUT or ISOLATED. -/
def Ev.closeAgainstLock (e : Ev) (i : SecNo) : Ev :=
  if e.s.mode = .observe then e
  else
    let e := e.mod fun s =>
      let s := s.modCtl i fun c => { c with former := some (c.state, c.reason) }
      (((s.queueOrder (.sec i) .trip).assertLine i).setPending i
        (some (s.order .trip .lock (some .commanded) true))).setSec i .tripping .commanded
    e.openCommanded i

/-- R16: a FAILED report in LOCKED_OUT. -/
def Ev.failedLockedOut (e : Ev) (i : SecNo) : Ev :=
  if (e.s.sec i).ctl.reason = .breakerFailure then e
  else (e.mod fun s => s.setSec i .lockedOut .breakerFailure).recordClosed .breakerFailure (.sec i)
    (some (.cause .failedReport)) none

/-- R16: a CLOSED report in WAITING or TESTING. -/
def Ev.closedInSequence (e : Ev) (i : SecNo) : Ev :=
  ((e.mod fun s => s.setSec i (if s.station.position = .closed then .live else .dead) .localClose).closeIncident i
    .cancelled).cancelSequence i

/-- R16: the effect of each report in each state, the position already recorded. -/
def Ev.judgeReport (e : Ev) (i : SecNo) (st : SecState) (r : Report) : Ev :=
  match st, r with
  | .dead, .closed => if e.s.station.position = .closed then e.mod fun s => s.setSec i .live .localClose else e
  | .dead, .failed => e.breakerLockout i .failedReport
  | .dead, .opened | .dead, .trippedLocal => e
  | .closing, .opened => e.closeFails i
  | .closing, .closed => e.confirmClose i
  | .closing, .trippedLocal => e.localTrip i
  | .closing, .failed => e.breakerLockout i .failedReport
  | .live, .opened => (e.mod fun s => s.setSec i .dead .localOpen).leaveSequence i .cancelled
  | .live, .closed => e
  | .live, .trippedLocal => e.localTrip i
  | .live, .failed => e.breakerFailure i .failedReport
  | .opening, .opened | .opening, .trippedLocal => e.mod fun s => s.confirmOpen i
  | .opening, .closed => e
  | .opening, .failed => e.breakerLockout i .failedReport
  | .tripping, .opened | .tripping, .trippedLocal => e.confirmTrip i
  | .tripping, .closed => e
  | .tripping, .failed => e.breakerFailure i .failedReport
  | .waiting, .closed | .testing, .closed => e.closedInSequence i
  | .waiting, .failed | .testing, .failed => e.breakerLockout i .failedReport
  | .waiting, .opened | .testing, .opened | .waiting, .trippedLocal | .testing, .trippedLocal => e
  | .lockedOut, .closed => if (e.s.sec i).ctl.reason = .breakerFailure then e else e.closeAgainstLock i
  | .lockedOut, .failed => e.failedLockedOut i
  | .lockedOut, .opened | .lockedOut, .trippedLocal => e
  | .isolated, .closed => e.closeAgainstLock i
  | .isolated, .failed => e.breakerLockout i .failedReport
  | .isolated, .opened | .isolated, .trippedLocal => e

/-- R3: the position a report records in a state, absent where the position stays. -/
def Report.position (st : SecState) : Report → Option Position
  | .opened | .trippedLocal => some .opened
  | .closed => if st = .tripping then none else some .closed
  | .failed => none

/-- R3, R16: a position report for a section breaker. An inactive section only records the position (R1). -/
def Ev.breakerReport (e : Ev) (i : SecNo) (r : Report) : Ev :=
  let st := (e.s.sec i).ctl.state
  let e := match r.position st with
    | some p => e.mod fun s => s.setPosition i p
    | none => e
  if (e.s.secEntry i).active then e.judgeReport i st r else e

/-- R24, R78: SECTION_RESET. -/
def Ev.sectionReset (e : Ev) (i : SecNo) : Ev × Result :=
  if !(e.s.secEntry i).active then (e, .refusedState)
  else if (e.s.sec i).ctl.state = .lockedOut then
    (e.mod fun s =>
      (((s.releaseLine i).modRcl i fun r => { r with shots := 0 }).modCtl i fun c => { c with incident := none }).setSec i
        (if s.bothClosed i then .live else .dead) .reset, .done)
  else (e, .refusedState)

/-- R25: SECTION_ISOLATE. -/
def Ev.sectionIsolate (e : Ev) (i : SecNo) (force : Bool) : Ev × Result :=
  if !(e.s.secEntry i).active || (e.s.sec i).ctl.state != .dead then (e, .refusedState)
  else if (e.s.sec i).ctl.position ≠ .opened then (e, .refusedInterlock)
  else if e.s.polesUpIn i && !force then (e, .refusedInterlock)
  else (e.mod fun s => s.setSec i .isolated (if force && e.s.polesUpIn i then .isolatedForced else .isolated), .done)

/-- R25: SECTION_RELEASE. -/
def Ev.sectionRelease (e : Ev) (i : SecNo) : Ev × Result :=
  if (e.s.secEntry i).active && (e.s.sec i).ctl.state == .isolated then
    (e.mod fun s => s.setSec i .dead .released, .done)
  else (e, .refusedState)

/-- Whether a section's pending order is due now, in a state. -/
def State.sectionDue (s : State) (i : SecNo) (st : SecState) : Bool :=
  (s.sec i).ctl.state == st && (s.sec i).ctl.pending.any fun p => p.expiry.due s.partTime

/-- R13: the CloseConfirmTime expiry of a section. -/
def Ev.closeConfirmTimeExpiry (e : Ev) (i : SecNo) : Ev := if e.s.sectionDue i .closing then e.closeFails i else e

/-- R15: the TripConfirmTime expiry of a section in OPENING. -/
def Ev.sectionOpenExpiry (e : Ev) (i : SecNo) : Ev := if e.s.sectionDue i .opening then e.openFails i else e

/-- R18: the TripConfirmTime expiry of a section in TRIPPING. -/
def Ev.sectionTripExpiry (e : Ev) (i : SecNo) : Ev :=
  if e.s.sectionDue i .tripping then e.breakerFailure i .tripExpiry else e

/-- R1, R173: an active DEAD section with both positions CLOSED becomes LIVE. -/
def Ev.derive (e : Ev) (i : SecNo) : Ev :=
  if (e.s.secEntry i).active && (e.s.sec i).ctl.state == .dead && e.s.bothClosed i then
    e.mod fun s => s.setSec i .live .modeEntry
  else e

end Sys2Proof.Machine
end

