-- ==== Sys2Proof/Machine/Protection.lean ====
section
/-! DEFINITION. The protection unit (02): the six stages of a sample, its trip decision or WOULD_TRIP record, and the two
alarm checks. -/

namespace Sys2Proof.Machine

open Sys2Proof

/-- R29: the clamped current of a raw current. -/
def clampCurrent (raw : Int) : Int := if raw < -3000 then -3000 else if 7000 < raw then 7000 else raw

/-- R30: how a sample's interval is classified. -/
inductive Interval where
  | duplicate
  | normal (ticks : Nat) (iPrev : Int)
  | gap
  deriving DecidableEq, Repr

/-- R30: the interval of a sample against I_prev and t_prev. A first sample is treated as a gap. -/
def Feeder.interval (f : Feeder) (tick : Tick) : Interval :=
  match f.prev with
  | none => .gap
  | some (ip, tp) =>
    let d := (tick - tp).toNat
    if d = 0 then .duplicate else if d ≤ gapTicks then .normal d ip else .gap

/-- R30: Δt′. -/
def Interval.credit : Interval → Nat
  | .duplicate => 0
  | .normal d _ => d
  | .gap => gapTicks

/-- R32: the rate in amperes per millisecond, truncated toward zero. -/
def rate (current prev : Int) (d : Nat) : Int := Int.tdiv ((current - prev) * 4) d

/-- R33: the common step: the record after it, with the DELTA's rise and elapsed where it yields one. -/
def Feeder.commonStep (f : Feeder) (p : ProtSet) (current base : Int) (el d : Nat) : Feeder × Option (Int × Nat) :=
  let el' := el + d
  let f := { f with iBase := base, elapsed := el' }
  if (p.deltaLimit : Int) ≤ current - base then ({ f with rising := false }, some (current - base, el'))
  else if p.episodeMax < el' then ({ f with rising := false }, none)
  else ({ f with rising := true }, none)

/-- R33: stage 4 on a sample with its interval; a gap or a first sample ends the episode (R30). -/
def Feeder.stage4 (f : Feeder) (p : ProtSet) (current : Int) : Interval → Feeder × Option (Int × Nat)
  | .duplicate => (f, none)
  | .gap => ({ f with rising := false }, none)
  | .normal d ip =>
    let r := rate current ip d
    if f.rising then
      if r < p.rateHold then ({ f with rising := false }, none) else f.commonStep p current f.iBase f.elapsed d
    else if r < p.rateStart then (f, none)
    else f.commonStep p current ip 0 d

/-- R34: the thermal value after one sample. -/
def thermalAfter (h icont : Nat) (current : Int) (credit : Nat) : Nat :=
  let j : Int := (current.natAbs / 10 : Nat)
  let jc : Int := (icont / 10 : Nat)
  min hMax ((h : Int) + (j * j - jc * jc) * credit).toNat

/-- R31, R33, R35, R37: the kind of the decision a sample passes: INSTANT, DELTA, THERMAL, in this order. -/
def decisionKind (p : ProtSet) (current : Int) (delta : Bool) (h : Nat) : Option TripKind :=
  if p.imax ≤ current.natAbs then some .instant
  else if delta then some .delta
  else if p.thermalLimit * 1000000 ≤ h then some .thermal
  else none

/-- R37: rise and elapsed as a decision carries them. -/
def Feeder.rise (f : Feeder) (current : Int) (delta : Option (Int × Nat)) : Option (Int × Nat) :=
  match delta with
  | some d => some d
  | none => if f.rising then some (current - f.iBase, f.elapsed) else none

/-- R38, R60: a WOULD_TRIP record in place of a decision. -/
def Ev.wouldTrip (e : Ev) (i : SecNo) (d : Decision) : Ev :=
  if (e.s.sec i).ctl.state.trippable && spaced e.s.partTime (e.s.sec i).feed.lastWould then
    (e.mod fun s => s.modFeed i fun f => { f with lastWould := some s.partTime }).recordClosed .wouldTrip (.sec i)
      (some (.decision d.kind)) (some d.captured)
  else e

/-- R37, R38, R60: a decision goes to the section controller, or in OBSERVE to the incident list. -/
def Ev.giveDecision (e : Ev) (i : SecNo) (d : Decision) : Ev :=
  if e.s.mode = .observe then e.wouldTrip i d else e.tripDecision i d

/-- R40: the captured values of an alarm. -/
def alarmValues (current : Int) (h : Nat) (saturated : Bool) : Captured := ⟨some current, none, h, saturated⟩

/-- R40: the unexplained-current check. A run left at 3 by an open period that has ended without a sample counts as having
reached 3 at the next sample at or above Icont (DESIGN CHOICE; log 38). -/
def Ev.checkUnexplained (e : Ev) (i : SecNo) (current : Int) (saturated : Bool) : Ev :=
  let x := e.s.sec i
  if x.ctl.position ≠ .opened ∨ current.natAbs < (e.s.setOf i).icont then
    e.mod fun s => s.modFeed i fun f => { f with unexpRun := 0 }
  else
    let run := min 3 (x.feed.unexpRun + 1)
    let e := e.mod fun s => s.modFeed i fun f => { f with unexpRun := run }
    if run = 3 ∧ x.feed.unexpRaised = false then
      (e.mod fun s => s.modFeed i fun f => { f with unexpRaised := true }).recordClosed .unexplainedCurrent (.sec i) none
        (some (alarmValues current x.feed.h saturated))
    else e

/-- R41, R42: the reverse-current check. -/
def Ev.checkReverse (e : Ev) (i : SecNo) (current : Int) (saturated : Bool) (credit : Nat) : Ev :=
  let x := e.s.sec i
  let p := e.s.setOf i
  if x.ctl.state ≠ .live ∨ -(p.reverseLimit : Int) < current then
    e.mod fun s => s.modFeed i fun f => { f with revRun := 0, revRaised := false }
  else if e.s.regenIn i then e.mod fun s => s.modFeed i fun f => { f with revRun := 0 }
  else if x.feed.revRaised then e
  else
    let run := min p.reverseTime (x.feed.revRun + credit)
    let e := e.mod fun s => s.modFeed i fun f => { f with revRun := run }
    if p.reverseTime ≤ run then
      (e.mod fun s => s.modFeed i fun f => { f with revRaised := true }).recordClosed .reverseUnexplained (.sec i) none
        (some (alarmValues current x.feed.h saturated))
    else e

/-- R35: the reclose unit is told when the sample has taken H, `before` it, across the half limit, and when a change of
ThermalLimit has put H on another side than the one last told (log 22). -/
def Ev.tellCrossing (e : Ev) (i : SecNo) (before : Nat) : Ev :=
  let above := !e.s.belowHalf i
  if (e.s.halfLimit i ≤ before ↔ above = true) ∧ (e.s.sec i).feed.aboveHalf = above then e
  else (e.mod fun s => s.modFeed i fun f => { f with aboveHalf := above }).reevaluate i .thermal

/-- R30, R33, R34, R36: the record after stages 1 to 6 of a sample that is not a duplicate, with its DELTA. -/
def Feeder.compute (f : Feeder) (p : ProtSet) (tick : Tick) (current : Int) (saturated : Bool) (v : Interval) :
    Feeder × Option (Int × Nat) :=
  let (g, delta) := f.stage4 p current v
  ({ g with
      h := thermalAfter f.h p.icont current v.credit,
      prev := some (current, tick),
      gap := if v = .gap then inc16 f.gap else f.gap,
      saturated := if saturated then inc16 f.saturated else f.saturated }, delta)

/-- R28 to R42: the protection unit computes on one sample; the decision comes before the alarm checks (log 13). -/
def Ev.compute (e : Ev) (i : SecNo) (tick : Tick) (raw : Int) : Ev :=
  let f := (e.s.sec i).feed
  let p := e.s.setOf i
  let v := f.interval tick
  if v = .duplicate then e.mod fun s => s.modFeed i fun f => { f with dup := inc16 f.dup }
  else
    let current := clampCurrent raw
    let saturated := current != raw
    let (g, delta) := f.compute p tick current saturated v
    let e := (e.mod fun s => s.modFeed i fun _ => g).tellCrossing i f.h
    let e := match decisionKind p current delta.isSome g.h with
      | none => e
      | some k => e.giveDecision i ⟨k, ⟨some current, g.rise current delta, g.h, saturated⟩⟩
    (e.checkUnexplained i current saturated).checkReverse i current saturated v.credit

/-- R39: a change of active source, or BLIND, reaches the protection unit. -/
def Feeder.sourceChanged (f : Feeder) : Feeder := { f with prev := none, rising := false, unexpRun := 0, revRun := 0 }

end Sys2Proof.Machine
end

