-- ==== Sys2Proof/Machine/Selector.lean ====
section
/-! DEFINITION. The source selector (03): source records, the selector's states, BLIND and its decisions, and what a
change of section entry does to them (R62). -/

namespace Sys2Proof.Machine

open Sys2Proof

/-- R50: a sample is taken into a source record. -/
def Source.take (x : Source) (tick : Tick) (now : PartTime) : Source :=
  let restarted (run : Nat) : Source := { last := some (tick, now), run := run, fresh := true, stale := some ⟨now, staleTime⟩ }
  match x.last with
  | none => restarted 1
  | some (t, _) =>
    let d := (tick - t).toNat
    if d = 0 then x else if d ≤ gapTicks then restarted (min settleCount (x.run + 1)) else restarted 1

/-- R57, R62: the BLIND period begins now; with BlindAction TRIP its expiry starts. -/
def State.beginBlind (s : State) (i : SecNo) : State :=
  s.modSel i fun x => { x with
    blindSince := some s.partTime, overdue := false,
    blindExpiry := if (s.secEntry i).blindTrip then some ⟨s.partTime, (s.secEntry i).blindTime * 100⟩ else none }

/-- R55: what leaving BLIND clears. -/
def Selector.sighted (x : Selector) : Selector := { x with blindSince := none, blindExpiry := none, overdue := false }

/-- R56, R57: a change of the selector state. -/
def Ev.setSelector (e : Ev) (i : SecNo) (st : SelState) : Ev :=
  if (e.s.sec i).sel.state = st then e
  else
    let e := e.mod fun s =>
      (s.modSel i fun x =>
        { (if x.state = .blind then x.sighted else x) with state := st, changes := inc16 x.changes }).modFeed i
        Feeder.sourceChanged
    let e := ({ e with selectorReports := e.selectorReports ++ [i] } : Ev).reevaluate i .source
    if st = .blind then
      ((e.mod fun s => s.modSel i fun x => { x with blinds := inc16 x.blinds }).recordClosed .blindSection (.sec i) none
        none).mod fun s => s.beginBlind i
    else e

/-- R53, R54: a source has gone stale. -/
def Ev.afterStale (e : Ev) (i : SecNo) (r : SourceRole) : Ev :=
  let x := e.s.sec i
  match x.sel.state, r with
  | .usingPrimary, .primary =>
    e.setSelector i (if (e.s.secEntry i).secondary && x.seco.run == settleCount then .usingSecondary else .blind)
  | .usingSecondary, .secondary => e.setSelector i (if x.prim.run = settleCount then .usingPrimary else .blind)
  | _, _ => e

/-- R51: a source record's stale expiry is taken. -/
def Ev.staleExpiry (e : Ev) (i : SecNo) (r : SourceRole) : Ev :=
  if dueNow e.s.partTime ((e.s.sec i).source r).stale then
    (e.mod fun s => s.modSec i fun x => x.setSource r coldSource).afterStale i r
  else e

/-- R54, R55: the state rules after a sample has been taken. -/
def Ev.afterSample (e : Ev) (i : SecNo) (r : SourceRole) : Ev :=
  let x := e.s.sec i
  if (x.source r).run = settleCount then
    match x.sel.state, r with
    | .usingSecondary, .primary => e.setSelector i .usingPrimary
    | .blind, .primary => e.setSelector i .usingPrimary
    | .blind, .secondary => e.setSelector i .usingSecondary
    | _, _ => e
  else e

/-- R52: the active source of a section. -/
def Sec.activeSource (x : Sec) : Option SourceRole :=
  match x.sel.state with
  | .usingPrimary => some .primary
  | .usingSecondary => some .secondary
  | .blind => none

/-- R28, R50: one sample of a source: the selector takes it, then the protection unit if its source is active. -/
def Ev.takeSample (e : Ev) (i : SecNo) (r : SourceRole) (sample : Tick × Int) : Ev :=
  let e := (e.mod fun s => s.modSec i fun x => x.setSource r ((x.source r).take sample.1 s.partTime)).afterSample i r
  if (e.s.sec i).activeSource = some r then e.compute i sample.1 sample.2 else e

/-- R28, R49: a SAMPLE telegram delivered to a source role; `samples` is absent where count or LEN is wrong. A malformed
one is counted for an active section alone, and then for either role (DESIGN CHOICE; log 29). -/
def Ev.sampleTelegram (e : Ev) (i : SecNo) (r : SourceRole) (samples : Option (List (Tick × Int))) : Ev :=
  if !(e.s.secEntry i).active then e
  else match samples with
    | none => e.mod fun s => s.modFeed i fun f => { f with malformed := inc16 f.malformed }
    | some l =>
      if r = .secondary ∧ (e.s.secEntry i).secondary = false then e
      else l.foldl (fun e x => e.takeSample i r x) e

/-- R59: the BLIND decision. -/
def Ev.blindDecision (e : Ev) (i : SecNo) : Ev :=
  if (e.s.sec i).ctl.state.trippable then
    e.giveDecision i ⟨.blind, ⟨none, none, (e.s.sec i).feed.h, false⟩⟩
  else e

/-- R59: the blind expiry is taken. -/
def Ev.takeBlindExpiry (e : Ev) (i : SecNo) : Ev :=
  (e.mod fun s => s.modSel i fun x => { x with blindExpiry := none, overdue := true }).blindDecision i

/-- R59: the blind expiry of a BLIND section. -/
def Ev.blindExpiry (e : Ev) (i : SecNo) : Ev :=
  if (e.s.sec i).sel.state = .blind ∧ dueNow e.s.partTime (e.s.sec i).sel.blindExpiry then e.takeBlindExpiry i else e

/-- R59: at the end of an event, a BLIND overdue section that has entered LIVE, CLOSING or OPENING in it, or that is in
one of these at a change of mode to ACTIVE or AUTONOMOUS, receives the decision (log 15). -/
def Ev.blindPass (e : Ev) : Ev :=
  e.forSecs fun e i =>
    let x := e.s.sec i
    let entered := x.ctl.state != (e.old.sec i).ctl.state
    let moded := e.s.mode != e.old.mode && e.s.mode != .observe
    if x.sel.state == .blind && x.sel.overdue && (entered || moded) then e.blindDecision i else e

/-- R52, R62: a section is put into BLIND without entering it: no incident and no notice. -/
def State.startBlind (s : State) (i : SecNo) : State :=
  (s.modSec i fun x => { x with prim := coldSource, seco := coldSource, sel := coldSelector }).beginBlind i

/-- R1, R27, R62, R65: the records of a section whose entry is made active. The breaker position is kept. -/
def State.activateSection (s : State) (i : SecNo) : State :=
  (s.modSec i fun x =>
    { coldSec with ctl := { coldCtl with position := x.ctl.position } }).startBlind i

/-- R1: a section's deactivation may be taken. -/
def State.mayDeactivate (s : State) (i : SecNo) : Bool :=
  let c := (s.sec i).ctl
  (c.state == .dead || c.state == .lockedOut || c.state == .isolated) && !c.tripLine

/-- R1, R27, R62, R65: a section's entry is made inactive. The breaker position is kept. The selector's return to its
cold-restart values is no change of R56, so it queues no SECTION_REPORT of its own (DEDUCED; log 37). -/
def Ev.deactivateSection (e : Ev) (i : SecNo) : Ev :=
  (e.closeIncident i .cancelled).mod fun s => s.modSec i fun x =>
    { coldSec with ctl := { coldCtl with position := x.ctl.position } }

/-- R62: a reload keeps a section active: `old` is the entry it had. A new expiry that lies ahead leaves blind overdue as
it stands, also where it is yes already (DEDUCED; log 39). -/
def Ev.reloadSection (e : Ev) (i : SecNo) (old : SectionEntry) : Ev :=
  let new := e.s.secEntry i
  let e := if old.secondary && !new.secondary then
      (e.mod fun s => s.modSec i fun x => x.setSource .secondary coldSource).afterStale i .secondary
    else if !old.secondary && new.secondary then e.mod fun s => s.modSec i fun x => x.setSource .secondary coldSource
    else e
  let x := (e.s.sec i).sel
  if x.state = .blind ∧ (old.blindTrip ≠ new.blindTrip ∨ old.blindTime ≠ new.blindTime) then
    match x.blindSince with
    | none => e
    | some t =>
      if new.blindTrip then
        let due : Expiry := ⟨t, new.blindTime * 100⟩
        if due.due e.s.partTime then e.takeBlindExpiry i
        else e.mod fun s => s.modSel i fun x => { x with blindExpiry := some due }
      else e.mod fun s => s.modSel i fun x => { x with blindExpiry := none, overdue := false }
  else e

end Sys2Proof.Machine
end

