-- ==== Sys2Proof/Machine/Vehicles.lean ====
section
/-! DEFINITION. The vehicle tracker (06): statuses, admission, replacement, obstruction notices, ageing and
VEHICLE_FORGET. A well-formed status is read by Machine/Operands.lean. -/

namespace Sys2Proof.Machine

open Sys2Proof

/-- R100: what a well-formed VEHICLE_STATUS says; a marker of 0 is absent. -/
structure VehicleStatus where
  vehicle : Nat
  marker  : Option SecNo
  state   : VehState
  codes   : List FaultCode
  deriving DecidableEq, Repr

/-- R98: the codes in the order of R98. -/
def allFaults : List FaultCode := [.insulation, .collectorShort, .dewired, .traction, .regenFault]

/-- Whether a fault list holds a code. -/
def holdsFault (fs : List (FaultCode × PartTime)) (c : FaultCode) : Bool := fs.any fun f => f.1 == c

/-- R104: the codes a status adds to a fault list, in the order of R98. -/
def addedFaults (fs : List (FaultCode × PartTime)) (codes : List FaultCode) : List FaultCode :=
  allFaults.filter fun c => codes.contains c && !holdsFault fs c

/-- R98, R104: the fault list after a status: the codes kept from earlier moments, then those recorded now, in the order of
R98 whether this status or another of the same moment has added them. -/
def newFaults (fs : List (FaultCode × PartTime)) (codes : List FaultCode) (now : PartTime) : List (FaultCode × PartTime) :=
  let kept := fs.filter fun f => codes.contains f.1
  let added := addedFaults fs codes
  (kept.filter fun f => f.2 != now) ++
    (allFaults.filter fun c => added.contains c || kept.contains (c, now)).map fun c => (c, now)

/-- R104: a fault change: a code added or removed. -/
def faultChange (was now : List (FaultCode × PartTime)) : Bool :=
  (now.any fun f => !holdsFault was f.1) || was.any fun f => !holdsFault now f.1

/-- R103, R104: an entry after a status has been taken into it; `silence` is VehicleSilence in milliseconds. -/
def Vehicle.take (v : Vehicle) (st : VehicleStatus) (now : PartTime) (silence : Nat) : Vehicle :=
  { v with
    lastHeard := now,
    silence := if v.admitted then some ⟨now, silence⟩ else v.silence,
    loc := if st.marker.isSome then st.marker else v.loc,
    source := if st.marker.isSome then .marker else v.source,
    state := st.state,
    faults := newFaults v.faults st.codes now }

/-- R105: an entry is admitted. -/
def Vehicle.makeAdmitted (v : Vehicle) (silence : Nat) : Vehicle :=
  { v with admitted := true, admission := none, silence := some ⟨v.lastHeard, silence⟩ }

/-- R108: the point a DEWIRED fault is tied to, if the last point qualifies. -/
def Vehicle.dewiredAt (v : Vehicle) (now : PartTime) : Option PointNo :=
  match v.lastPoint, v.faults.find? fun f => f.1 == .dewired with
  | some (p, t), some f =>
    if elapsed now f.2 ≤ elapsed now t ∧ elapsed now t - elapsed now f.2 ≤ dewireReach then some p else none
  | _, _ => none

/-- R108, R109: the obstruction notices of one status: `was` is the entry before it, and `v` after it. -/
def Ev.obstructionNotices (e : Ev) (was v : Vehicle) (admits : Bool) : Ev :=
  let active := holdsFault v.faults .dewired
  if active && v.admitted && (admits || !holdsFault was.faults .dewired) then
    match v.dewiredAt e.s.partTime with
    | none => e
    | some p => (e.mod fun s => s.modVehicle v.number fun v => { v with obstruction := some p }).obstruct p v.number
  else if !active && holdsFault was.faults .dewired then
    match v.obstruction with
    | none => e
    | some p => (e.unobstruct p v.number).mod fun s => s.modVehicle v.number fun v => { v with obstruction := none }
  else e

/-- R111: the gate notice: gate 3 of every GATING section whose current incident lists the vehicle. -/
def Ev.gateNotice (e : Ev) (vehicle : Nat) : Ev :=
  e.forSecs fun e i =>
    if (e.s.incidentOf i).any fun r => r.vehicles.any fun a => a.vehicle == vehicle then e.reevaluate i .vehicles else e

/-- R106, step 4: the notice to the incident list. -/
def Ev.incidentNotice (e : Ev) (was v : Vehicle) (admits : Bool) : Ev :=
  let added := (allFaults.filter fun c => holdsFault v.faults c && !holdsFault was.faults c).filter FaultCode.lineAffecting
  if admits then
    if v.faults.any fun f => f.1.lineAffecting then e.lateAttach v.number none else e
  else if was.admitted then
    match added with
    | [] => e
    | c :: _ => e.lateAttach v.number (some c)
  else e

/-- R106: what changed is handed on. -/
def Ev.handOn (e : Ev) (was v : Vehicle) (admits : Bool) : Ev :=
  let moved := v.loc != was.loc
  let faults := faultChange was.faults v.faults
  let e := if v.admitted && (admits || moved || faults) then
      e.vehicleReport (e.s.report kVehicleReport (v.reportBody admits moved faults))
    else e
  let e := e.obstructionNotices was v admits
  let e := if 0 < v.attributed ∧ (was.state = .polesDown ↔ v.state ≠ .polesDown) then e.gateNotice v.number else e
  e.incidentNotice was v admits

/-- R101, R103, R104, R105: a status is taken into an entry, `was`, that is in the table or is created now. It is counted
as taken here, so that a status a full table refuses is not (R99 before R100; DESIGN CHOICE; log 48). -/
def Ev.statusInto (e : Ev) (was : Vehicle) (st : VehicleStatus) (admits : Bool) : Ev :=
  let silence := e.s.settings.vehicleSilence * 1000
  let v := was.take st e.s.partTime silence
  let v := if admits then v.makeAdmitted silence else v
  let e := e.mod fun s => (s.addVehicle v).modVehicles fun t => { t with taken := inc16 t.taken }
  e.handOn was v admits

/-- R101: a new entry, before the status is taken into it. -/
def newVehicle (n : Nat) (now : PartTime) (admission : Option Expiry) : Vehicle :=
  { number := n, admitted := false, loc := none, source := .marker, state := .running, faults := [], lastHeard := now,
    admission := admission, silence := none, attributed := 0, lastPoint := none, obstruction := none, lastOrder := none }

/-- R101: a status creates an entry. -/
def Ev.createVehicle (e : Ev) (st : VehicleStatus) : Ev :=
  if e.s.settings.admitReports = 1 then e.statusInto (newVehicle st.vehicle e.s.partTime none) st true
  else e.statusInto (newVehicle st.vehicle e.s.partTime (some ⟨e.s.partTime, e.s.settings.admitInterval * 100⟩)) st false

/-- R102: an entry that may be replaced. -/
def Vehicle.candidate (v : Vehicle) : Bool := v.admitted && v.faults.isEmpty && v.attributed == 0

/-- R102: the candidate heard longest ago; of equals, the first in the table, whose number is lowest. -/
def oldestCandidate (now : PartTime) : List Vehicle → Option Vehicle
  | [] => none
  | v :: vs =>
    if v.candidate then
      match oldestCandidate now vs with
      | none => some v
      | some w => if elapsed now v.lastHeard < elapsed now w.lastHeard then some w else some v
    else oldestCandidate now vs

/-- R102: a new vehicle finds no room: a count, and a spaced report. -/
def Ev.tableFull (e : Ev) (vehicle : Nat) : Ev :=
  let t := e.s.vehicles
  let refusals := inc16 t.refusals
  let spacedNow := match t.lastFull with
    | none => true
    | some l => tableFullSpacing ≤ elapsed e.s.partTime l
  let e := e.mod fun s => s.modVehicles fun t => { t with
    tableFull := inc16 t.tableFull,
    refusals := if spacedNow then 0 else refusals,
    lastFull := if spacedNow then some s.partTime else t.lastFull }
  if spacedNow then
    e.vehicleReport (e.s.report kVehicleReport (tableFullBody vehicle refusals e.s.vehicles.entries.length))
  else e

/-- R100 to R106: a VEHICLE_STATUS that is well formed. -/
def Ev.takeStatus (e : Ev) (st : VehicleStatus) : Ev :=
  if st.vehicle = 0 ∨ 9999 < st.vehicle then
    e.mod fun s => s.modVehicles fun t => { t with badNumbers := inc16 t.badNumbers }
  else match e.s.vehicle? st.vehicle with
    | some v => e.statusInto v st (!v.admitted)
    | none =>
      if e.s.vehicles.entries.length < vehiclePlaces then e.createVehicle st
      else match oldestCandidate e.s.partTime e.s.vehicles.entries with
        | none => e.tableFull st.vehicle
        | some w =>
          let e := e.mod fun s => (s.removeVehicle w.number).modVehicles fun t =>
            { t with replacements := inc16 t.replacements }
          (e.vehicleReport (e.s.report kVehicleReport (w.removedBody .replaced))).createVehicle st

/-- R100: a VEHICLE_STATUS, absent where it is malformed. -/
def Ev.vehicleStatus (e : Ev) : Option VehicleStatus → Ev
  | none => e.mod fun s => s.modVehicles fun t => { t with malformed := inc16 t.malformed }
  | some st => e.takeStatus st

/-- R105: the admission expiry of a PROVISIONAL entry. -/
def Ev.admissionExpiry (e : Ev) (n : Nat) : Ev :=
  match e.s.vehicle? n with
  | none => e
  | some v =>
    if !v.admitted && dueNow e.s.partTime v.admission then
      e.mod fun s => (s.removeVehicle n).modVehicles fun t => { t with provExpiries := inc16 t.provExpiries }
    else e

/-- R113: the silence expiry of an ADMITTED entry. -/
def Ev.silenceExpiry (e : Ev) (n : Nat) : Ev :=
  match e.s.vehicle? n with
  | none => e
  | some v =>
    match v.silence with
    | none => e
    | some x =>
      if v.admitted && x.due e.s.partTime then
        if v.attributed = 0 then
          let e := e.mod fun s => (s.removeVehicle n).modVehicles fun t =>
            { t with silenceRemovals := inc16 t.silenceRemovals }
          e.vehicleReport (e.s.report kVehicleReport (v.removedBody .silence))
        else e.mod fun s => s.modVehicle n fun v =>
          { v with silence := some ⟨x.moment, s.settings.vehicleSilence * 1000⟩ }
      else e

/-- R114: VEHICLE_FORGET. -/
def Ev.vehicleForget (e : Ev) (n : Nat) : Ev × Result :=
  if n = 0 ∨ 9999 < n then (e, .badArgument)
  else match e.s.vehicle? n with
    | none => (e, .done)
    | some v =>
      if 0 < v.attributed then (e, .refusedState)
      else
        let e := e.mod fun s => s.removeVehicle n
        (if v.admitted then e.vehicleReport (e.s.report kVehicleReport (v.removedBody .forgotten)) else e, .done)

end Sys2Proof.Machine
end

