-- ==== Sys2Proof/Machine/Operands.lean ====
section
/-! DEFINITION. Reading what the lines and requests bring (chapter 12, "Kinds and bodies" and "Commands and management
requests"): the bodies of every kind the part takes, and the codes of arguments. A reader answers none where the body or
code is malformed; what follows then is said by the block that takes it. -/

namespace Sys2Proof.Machine

open Sys2Proof

/-- A field of two bytes, high byte first. -/
def read16 (a b : Byte) : Nat := a.toNat * 256 + b.toNat

/-- A field of four bytes, high byte first. -/
def read32 (a b c d : Byte) : Nat := read16 a b * 65536 + read16 c d

/-- R3: a breaker position report. -/
def breakerReportOf : List Byte → Option Report
  | [b] => match b.toNat with
    | 0 => some .opened
    | 1 => some .closed
    | 2 => some .trippedLocal
    | 3 => some .failed
    | _ => none
  | _ => none

/-- R28: the samples of a body after its count. -/
def sampleList : List Byte → List (Tick × Int)
  | t1 :: t0 :: c1 :: c0 :: rest => (t1 ++ t0, (c1 ++ c0).toInt) :: sampleList rest
  | _ => []

/-- R28: a SAMPLE body: count 1..8 and LEN 1 + 4 × count. -/
def samplesOf : List Byte → Option (List (Tick × Int))
  | [] => none
  | n :: rest =>
    if 1 ≤ n.toNat ∧ n.toNat ≤ 8 ∧ rest.length = 4 * n.toNat then some (sampleList rest) else none

/-- R73: a LINE_TEST_RESULT body. -/
def lineTestOf : List Byte → Option (BitVec 16)
  | [a, b] => some (a ++ b)
  | _ => none

/-- A leg. -/
def legOf (b : Byte) : Option Leg :=
  match b.toNat with
  | 0 => some .straight
  | 1 => some .diverging
  | _ => none

/-- R119: a POINT_POSITION body: a blade report, or FAULT, which is `none` inside. -/
def pointPositionOf : List Byte → Option (Option Blade)
  | [b] => match b.toNat with
    | 0 => some (some .straight)
    | 1 => some (some .diverging)
    | 2 => some (some .mid)
    | 3 => some none
    | _ => none
  | _ => none

/-- Chapter 12: the code of a contact role. -/
def ContactRole.code : ContactRole → Byte
  | .approach => 1
  | .clear => 2

/-- R124: a ROUTE_REQUEST body that names a vehicle, a point and a leg; a body that is not 4 bytes names none (DEDUCED;
log 42). -/
def routeRequestOf : List Byte → Option (Nat × PointNo × Leg)
  | [v1, v0, p, l] =>
    let v := read16 v1 v0
    match pointOf p.toNat, legOf l with
    | some p, some l => if 1 ≤ v ∧ v ≤ 9999 then some (v, p, l) else none
    | _, _ => none
  | _ => none

/-- R98: a fault code. -/
def faultOf (b : Byte) : Option FaultCode :=
  match b.toNat with
  | 1 => some .insulation
  | 2 => some .collectorShort
  | 3 => some .dewired
  | 4 => some .traction
  | 5 => some .regenFault
  | _ => none

/-- R98: a vehicle state. -/
def vehStateOf (b : Byte) : Option VehState :=
  match b.toNat with
  | 0 => some .running
  | 1 => some .regen
  | 2 => some .polesDown
  | _ => none

/-- R100, check 1: a well-formed VEHICLE_STATUS body. -/
def vehicleStatusOf : List Byte → Option VehicleStatus
  | v1 :: v0 :: m :: st :: n :: codes =>
    match vehStateOf st, codes.mapM faultOf with
    | some st, some fs =>
      if m.toNat ≤ 8 ∧ n.toNat ≤ 4 ∧ codes.length = n.toNat then some ⟨read16 v1 v0, secOf m.toNat, st, fs⟩ else none
    | _, _ => none
  | _ => none

/-- R177: a day time, of any value. -/
def dayTimeOf : List Byte → Option Nat
  | [a, b, c, d] => some (read32 a b c d)
  | _ => none

/-- Chapter 12: yes or no as an argument (log 17). -/
def yesNoOf (b : Byte) : Option Bool :=
  match b.toNat with
  | 0 => some false
  | 1 => some true
  | _ => none

/-- Chapter 12: a rate code. -/
def rateOf (b : Byte) : Option Rate :=
  match b.toNat with
  | 1 => some .r9600
  | 2 => some .r19200
  | 3 => some .r57600
  | 4 => some .r115200
  | _ => none

/-- Chapter 12: the place of a rate in an ability set. -/
def Rate.bit : Rate → Nat
  | .r9600 => 0
  | .r19200 => 1
  | .r57600 => 2
  | .r115200 => 3

/-- R155, R156: a rate stands in an ability set. -/
def allows (set : Byte) (r : Rate) : Bool := set.getLsbD r.bit

/-- A telegram's key: its first body byte, or 0 (R141). -/
def Telegram.key (t : Telegram) : Byte := t.body.headD 0

/-- R162: a telegram from the bytes after SYNC, which are 6 + LEN, with its check word as received. -/
def rxTelegramOf : List Byte → Option RxTelegram
  | dst :: src :: kind :: len :: rest =>
    if rest.length = len.toNat + 2 then
      match rest.drop len.toNat with
      | [h, l] => some ⟨⟨dst, src, kind, rest.take len.toNat⟩, h ++ l⟩
      | _ => none
    else none
  | _ => none

/-- R196: the check word received is the one the receiver forms. -/
def RxTelegram.valid (r : RxTelegram) : Bool := crc (Telegram.covered r.tg) == r.check

end Sys2Proof.Machine
end

