-- ==== Sys2Proof/Machine/Ports.lean ====
section
/-! DEFINITION. The line ports (09): rate agreement (R155 to R161), reception byte by byte (R162 to R164) and transmission
(R165 to R167). The transmitter holds the frame it is sending and the offers that wait for it (log 19). -/

namespace Sys2Proof.Machine

open Sys2Proof

/-! ### Rates and offers -/

/-- R155: a line's allowed rate set with 9600 included. -/
def State.ability (s : State) (l : Line) : Byte := s.settings.rates l ||| 1

/-- R156: the rate resolved from a received ability set and the port's own. -/
def resolveRate (own received : Byte) : Rate :=
  if allows own .r115200 && allows received .r115200 then .r115200
  else if allows own .r57600 && allows received .r57600 then .r57600
  else if allows own .r19200 && allows received .r19200 then .r19200
  else .r9600

/-- R155: the offer a port sends in its link state. -/
def State.offer (s : State) (l : Line) : Telegram :=
  let p := s.port l
  let ack := p.link == .acknowledging
  s.telegram 0 kLinkOffer
    [s.ability l, (if ack then 1 else 0), (if ack then (match p.resolved with | none => 0 | some r => r.code) else 0)]

/-- R155, R158: an offer is sent when the transmitter is free, and waits otherwise; `further` marks the further ACK
offer. -/
def State.sendOffer (s : State) (l : Line) (further : Bool) : State :=
  match (s.port l).tx with
  | none => s.modPort l fun p => { p with tx := some ⟨Telegram.frame (s.offer l), further⟩ }
  | some _ => s.modPort l fun p =>
      if further then { p with furtherWaiting := true } else { p with offersWaiting := p.offersWaiting + 1 }

/-- R158: the further ACK offer confirms no more: one that is being sent goes on as a plain frame, and one that still waits
is dropped unsent (DESIGN CHOICE; log 19). -/
def Port.dropFurther (p : Port) : Port :=
  { p with furtherWaiting := false, tx := p.tx.map fun t => { t with further := false } }

/-- R158, R162: a change of rate loses the byte and the telegram in reception and puts the receiver into WAITING_GAP
(log 20). -/
def Port.setRate (p : Port) (r : Rate) : Port :=
  if p.rate = r then p
  else { p with rate := r, rx := .waitingGap, rxBytes := [], rxRun := 0, rxTail := false }

/-- R157: a port enters NEGOTIATING. -/
def Port.enterNegotiating (p : Port) (now : PartTime) : Port :=
  { (p.setRate .r9600).dropFurther with
    link := .negotiating, resolved := none, partner := none, upSince := none, ackReceived := false,
    partnerOver := false, quiet := none, partnerExp := some ⟨now, partnerWait⟩, offerExp := some ⟨now, 0⟩ }

/-- R157: a port enters NEGOTIATING now. -/
def State.enterNegotiating (s : State) (l : Line) : State := s.modPort l fun p => p.enterNegotiating s.partTime

/-- R157: a port enters ACKNOWLEDGING and sends an ACK offer at once. A port that comes from UP has no offer expiry, and one
is started 100 ms ahead (DEDUCED; log 20). -/
def State.enterAcknowledging (s : State) (l : Line) (r : Rate) (ack : Bool) : State :=
  (s.modPort l fun p =>
    { p.setRate .r9600 with
      link := .acknowledging, resolved := some r, partner := none, ackReceived := ack, partnerExp := none,
      quiet := some ⟨s.partTime, linkQuiet⟩,
      offerExp := match p.offerExp with | some x => some x | none => some ⟨s.partTime, offerSpacing⟩ }).sendOffer l ack

/-- R158: a port becomes UP with an agreed partner. -/
def Port.becomeAgreed (p : Port) (now : PartTime) : Port :=
  let p := match p.resolved with
    | none => p
    | some r => p.setRate r
  { p with link := .up, partner := some .agreed, upSince := some now, offerExp := none,
           quiet := some ⟨now, linkQuiet⟩, offersWaiting := 0, furtherWaiting := false }

/-- R160: a port becomes UP with a fixed partner at 9600. -/
def Port.becomeFixed (p : Port) (now : PartTime) : Port :=
  { p with link := .up, partner := some .fixed, upSince := some now, offerExp := none,
           quiet := some ⟨now, linkQuiet⟩, offersWaiting := 0, furtherWaiting := false }

/-- R158, R159: the quiet expiry restarts. -/
def State.hearLine (s : State) (l : Line) : State :=
  s.modPort l fun p => { p with quiet := some ⟨s.partTime, linkQuiet⟩ }

/-- R156: a usable offer: the ability set, and for an ACK offer the resolved rate (log 21). -/
def usableOffer : List Byte → Option (Byte × Option Rate)
  | [ability, ack, r] =>
    if ability.toNat % 16 = 0 then none
    else if ack.toNat = 0 then some (ability, none)
    else if ack.toNat = 1 then (rateOf r).map fun r => (ability, some r)
    else none
  | _ => none

/-- R158: a plain offer in ACKNOWLEDGING. -/
def State.plainInAcknowledging (s : State) (l : Line) (r : Rate) : State :=
  (s.modPort l fun p =>
    if p.resolved = some r then p else { p.dropFurther with resolved := some r, ackReceived := false }).hearLine l

/-- R158: a matching ACK offer in ACKNOWLEDGING. -/
def State.ackInAcknowledging (s : State) (l : Line) (r : Rate) : State :=
  let was := (s.port l).ackReceived
  let s := (s.modPort l fun p => { p with resolved := some r, ackReceived := true }).hearLine l
  if was then s else s.sendOffer l true

/-- R157, R158, R159: a usable offer by link state. -/
def State.offerTaken (s : State) (l : Line) (ability : Byte) (ack : Option Rate) : State :=
  let r := resolveRate (s.ability l) ability
  match (s.port l).link, ack with
  | .negotiating, none => s.enterAcknowledging l r false
  | .negotiating, some x => if x = r then s.enterAcknowledging l r true else s
  | .acknowledging, none => s.plainInAcknowledging l r
  | .acknowledging, some x => if x = r then s.ackInAcknowledging l r else s.enterNegotiating l
  | .up, none => (s.hearLine l).enterAcknowledging l r false
  | .up, some x => if x = (s.port l).rate then s.hearLine l else s.enterNegotiating l

/-- R156: a valid LINK_OFFER is taken by the port itself. -/
def State.takeOffer (s : State) (l : Line) (body : List Byte) : State :=
  match usableOffer body with
  | some (ability, ack) => s.offerTaken l ability ack
  | none =>
    let s := s.modCounters l fun c => { c with formats := inc32 c.formats }
    if (s.port l).link = .up then s.hearLine l else s

/-- R161: a line's allowed rate set has changed. -/
def State.ratesChanged (s : State) (l : Line) : State :=
  let p := s.port l
  if p.link = .up ∧ p.partner = some .agreed ∧ allows (s.ability l) p.rate = false then s.enterNegotiating l else s

/-! ### Reception -/

/-- R164: a valid telegram goes into the receive buffer, or is an overrun. -/
def Port.store (p : Port) (r : RxTelegram) : Port :=
  if p.buffer.length < bufferPlaces then { p with buffer := p.buffer ++ [r] }
  else { p with counters := { p.counters with overruns := inc32 p.counters.overruns } }

/-- R157, R158, R160, R164: a valid telegram of a kind other than LINK_OFFER. -/
def State.takeValid (s : State) (l : Line) (r : RxTelegram) : State :=
  let p := s.port l
  match p.link with
  | .up => (s.hearLine l).modPort l fun p => p.store r
  | .negotiating =>
    if p.partnerOver then s.modPort l fun p => (p.becomeFixed s.partTime).store r
    else s.modCounters l fun c => { c with discarded := inc32 c.discarded }
  | .acknowledging => s.modCounters l fun c => { c with discarded := inc32 c.discarded }

/-- R162: a complete telegram is checked. -/
def State.completeTelegram (s : State) (l : Line) (r : RxTelegram) : State :=
  if r.valid then
    let s := s.modCounters l fun c => { c with valid := inc32 c.valid }
    if r.tg.kind = kLinkOffer then s.takeOffer l r.tg.body else s.takeValid l r
  else s.modCounters l fun c => { c with checks := inc32 c.checks }

/-- R162: the receiver skips, with a format error counted now. -/
def Port.spoil (p : Port) : Port :=
  { p with rx := .skipping, rxBytes := [], rxTail := false,
           counters := { p.counters with formats := inc32 p.counters.formats } }

/-- R163: the receiver is cut off. -/
def Port.cutOff (p : Port) : Port :=
  { p with rx := .babble, rxBytes := [], rxRun := 0, rxTail := false,
           counters := { p.counters with babbles := inc32 p.counters.babbles } }

/-- R162: the bytes of a telegram in reception, SYNC apart, with one more byte. -/
def State.receiveByte (s : State) (l : Line) (bs : List Byte) : State :=
  if bs.length = 4 ∧ 48 < (bs.getD 3 0).toNat then s.modPort l Port.spoil
  else match rxTelegramOf bs with
    | some r => (s.modPort l fun p => { p with rx := .skipping, rxBytes := [], rxTail := true }).completeTelegram l r
    | none => s.modPort l fun p => { p with rxBytes := bs }

/-- R162, R163: a byte arrives. -/
def State.byteArrives (s : State) (l : Line) (b : Byte) : State :=
  let p := s.port l
  match p.rx with
  | .waitingGap | .babble => s
  | .ready =>
    if b = sync then s.modPort l fun p => { p with rx := .receiving, rxBytes := [], rxRun := 1, rxTail := false }
    else s.modPort l fun p => { p.spoil with rxRun := 1 }
  | .receiving =>
    if babbleLimit ≤ p.rxRun then s.modPort l Port.cutOff
    else (s.modPort l fun p => { p with rxRun := p.rxRun + 1 }).receiveByte l (p.rxBytes ++ [b])
  | .skipping =>
    if babbleLimit ≤ p.rxRun then s.modPort l Port.cutOff
    else s.modPort l fun p => { (if p.rxTail then p.spoil else p) with rxRun := p.rxRun + 1 }

/-- Bytes that arrive one after another. -/
def State.bytesArrive (s : State) (l : Line) (bs : List Byte) : State := bs.foldl (fun s b => s.byteArrives l b) s

/-- A whole frame: SYNC, LEN at most 48, and 7 + LEN bytes. -/
def wholeFrame (frame : List Byte) : Bool :=
  frame.head? == some sync && (frame.getD 4 0).toNat ≤ 48 && frame.length == 7 + (frame.getD 4 0).toNat

/-- R162: the rest of a whole frame arrives, of which the receiver may hold a first part; a frame the receiver is not
in place to complete changes nothing (log 3). -/
def State.frameArrives (s : State) (l : Line) (frame : List Byte) : State :=
  let p := s.port l
  if wholeFrame frame then
    match p.rx with
    | .ready => s.bytesArrive l frame
    | .receiving =>
      if (sync :: p.rxBytes).isPrefixOf frame then s.bytesArrive l (frame.drop (p.rxBytes.length + 1)) else s
    | .waitingGap | .skipping | .babble => s
  else s

/-- R162: the receiver after an idle gap. -/
def Port.gapReady (p : Port) : Port := { p with rx := .ready, rxBytes := [], rxRun := 0, rxTail := false }

/-- R162, R163: the line has been idle for `n` byte times. -/
def State.idleGap (s : State) (l : Line) (n : Nat) : State :=
  if n < gapByteTimes then s
  else s.modPort l fun p => match p.rx with
    | .waitingGap | .ready | .skipping => p.gapReady
    | .receiving => { p.gapReady with counters := { p.counters with formats := inc32 p.counters.formats } }
    | .babble => if n < babbleGapByteTimes then p else p.gapReady

/-- R163: a reception runs past 64 byte times. -/
def State.babbleCutoff (s : State) (l : Line) : State :=
  s.modPort l fun p => match p.rx with
    | .receiving | .skipping => p.cutOff
    | .waitingGap | .ready | .babble => p

/-! ### Transmission -/

/-- R167: the free transmitter of an UP link takes the oldest urgent order, or else the oldest normal telegram. -/
def Port.transmit (p : Port) : Port :=
  match p.urgent, p.normal with
  | o :: rest, _ => { p with urgent := rest, tx := some ⟨Telegram.frame o.tg, false⟩ }
  | [], t :: rest => { p with normal := rest, tx := some ⟨Telegram.frame t, false⟩ }
  | [], [] => { p with tx := none }

/-- R167: the transmitter of an UP link is free. -/
def State.transmitTelegram (s : State) (l : Line) : State :=
  s.modPort l fun p => if p.link = .up then p.transmit else p

/-- R155: the transmitter is free and sends the offer that waits, formed as the port stands now (log 19). -/
def State.nextOffer (s : State) (l : Line) : State :=
  let p := s.port l
  let free := s.modPort l fun p => { p with tx := none }
  if p.furtherWaiting then (free.modPort l fun p => { p with furtherWaiting := false }).sendOffer l true
  else if 0 < p.offersWaiting then
    (free.modPort l fun p => { p with offersWaiting := p.offersWaiting - 1 }).sendOffer l false
  else free

/-- The further ACK offer is being sent. -/
def Port.sendingFurther (p : Port) : Bool := p.tx.any Sending.further

/-- R155: the transmitter of a link that is not UP finishes its telegram, which is not the further ACK offer. -/
def State.transmitterFree (s : State) (l : Line) : State :=
  let p := s.port l
  if p.link = .up ∨ p.sendingFurther = true then s else s.nextOffer l

/-- R158: the transmission of the further ACK offer ends. -/
def State.ackOfferEnd (s : State) (l : Line) : State :=
  let p := s.port l
  if p.sendingFurther then
    if p.link = .acknowledging ∧ p.ackReceived = true then
      s.modPort l fun p => { p.becomeAgreed s.partTime with tx := none }
    else s.nextOffer l
  else s

/-! ### Expiries -/

/-- R155: the offer expiry. -/
def State.offerExpiry (s : State) (l : Line) : State :=
  if (s.port l).link ≠ .up ∧ dueNow s.partTime (s.port l).offerExp then
    (s.modPort l fun p => { p with offerExp := some ⟨s.partTime, offerSpacing⟩ }).sendOffer l false
  else s

/-- R157: the partner expiry. -/
def State.partnerExpiry (s : State) (l : Line) : State :=
  if (s.port l).link = .negotiating ∧ dueNow s.partTime (s.port l).partnerExp then
    s.modPort l fun p => { p with partnerOver := true, partnerExp := none }
  else s

/-- R158, R159: the quiet expiry. -/
def State.quietExpiry (s : State) (l : Line) : State :=
  if (s.port l).link ≠ .negotiating ∧ dueNow s.partTime (s.port l).quiet then s.enterNegotiating l else s

/-- R154, R180: the port at a warm restart; the frame in transmission is not interrupted (R167), and an offer that waits
for the transmitter is dropped unsent (DESIGN CHOICE; log 19). -/
def Port.warm (p : Port) (now : PartTime) : Port := { coldPort now with tx := p.dropFurther.tx }

end Sys2Proof.Machine
end

