-- ==== Sys2Proof/Machine/Events.lean ====
section
/-! DEFINITION. The end of an event: BLIND decisions (R59), the LIVE notices to the points (R131), the heads served once
(R126), and the reports and answers queued in their order (R26, R94, R106, R137, R176; log 12). -/

namespace Sys2Proof.Machine

open Sys2Proof

/-- R118, R131: supply live of one active point as its supply section stands; a point that becomes supplied has its head
served. -/
def Ev.supplyNotice (e : Ev) (p : PointNo) : Ev :=
  let live := (e.s.sec (e.s.pointEntry p).supply).ctl.state == .live
  if !(e.s.pointEntry p).active || (e.s.point p).supplyLive == live then e
  else
    let e := e.mod fun s => s.modPoint p fun x => { x with supplyLive := live }
    if live then e.serveHead p else e

/-- R126: the heads to be served in this event; that several points are served in ascending order is the model's choice
(DESIGN CHOICE; log 49). -/
def Ev.serveMarked (e : Ev) : Ev :=
  let marked := e.serve
  e.forPoints fun e p => if marked.contains p then e.mod fun s => s.serve p else e

/-- R26, R82: the fields of a section whose change queues a SECTION_REPORT. -/
def Sec.reported (x : Sec) : SecState × SecReason × Position × Bool × Nat × Option Nat :=
  (x.ctl.state, x.ctl.reason, x.ctl.position, x.ctl.tripLine, x.rcl.shots, x.ctl.incident)

/-- R26: the fields of the station whose change queues a STATION_REPORT. -/
def Station.reported (t : Station) : StState × StReason × Position × Bool := (t.state, t.reason, t.position, t.tripLine)

/-- R137: the fields of a point whose change queues a POINT_REPORT. -/
def Point.reported (x : Point) :
    PointPos × Activity × Option PointFailReason × Nat × Bool × Option Leg × Option Nat :=
  (x.position, x.activity, x.failure, x.occupancy, x.countError, x.lock, x.obstruction)

/-- R26: the STATION_REPORT of the event. -/
def Ev.stationReports (e : Ev) : List Telegram :=
  if e.s.station.reported = e.old.station.reported then [] else [e.s.report kStationReport e.s.stationReportBody]

/-- R26, R56: the SECTION_REPORTs of the event, in ascending section order. -/
def Ev.sectionReports (e : Ev) : List Telegram :=
  (allSecs.filter fun i => (e.s.sec i).reported != (e.old.sec i).reported || e.selectorReports.contains i).map fun i =>
    e.s.report kSectionReport (e.s.sectionReportBody i)

/-- R137: the POINT_REPORTs of the event, in ascending point order. -/
def Ev.pointReports (e : Ev) : List Telegram :=
  (allPoints.filter fun p => (e.s.point p).reported != (e.old.point p).reported).map fun p =>
    e.s.report kPointReport (e.s.pointReportBody p)

/-- What the event queues into the Control line normal queue at its end. -/
def Ev.reports (e : Ev) : List Telegram :=
  e.vehicleReports ++ e.stationReports ++ e.sectionReports ++ e.incidentReports ++ e.pointReports

/-- The changes that close an event, before its reports are queued. -/
def Ev.settle (e : Ev) : Ev := (e.blindPass.forPoints Ev.supplyNotice).serveMarked

/-- The end of an event. -/
def Ev.finish (e : Ev) : State :=
  let e := e.settle
  e.answers.foldl (fun s a => s.pushNormal a.1 a.2) (e.s.pushAll .control e.reports)

end Sys2Proof.Machine
end

