-- ==== Sys2Proof/Machine/Modes.lean ====
section
/-! DEFINITION. The mode and time unit (10): the change of mode (R176), SET_MODE (R172), control silence (R174, R175), time
marks (R177), day time (R178) and START_REPORT (R181). -/

namespace Sys2Proof.Machine

open Sys2Proof

/-- Change the mode record. -/
def State.modMode (s : State) (f : ModeRecord → ModeRecord) : State := { s with modeRec := f s.modeRec }

/-- R170: whether a section entry is active. -/
def State.anyActive (s : State) : Bool := s.tables.sections.toList.any SectionEntry.active

/-- R136, R176: what a change of mode does to the blocks. -/
def Ev.modeEffects (e : Ev) (was m : Mode) : Ev :=
  match was, m with
  | .observe, .active => e.forSecs Ev.derive
  | .active, .autonomous => e.forSecs fun e i => e.modeActsOn .autonomous i
  | .active, .observe | .autonomous, .observe =>
    (e.forSecs fun e i => e.modeActsOn .observe i).forPoints fun e p => e.mod fun s => s.refuseAll p .outOfService
  | _, _ => e

/-- R176: a change of mode with its cause. -/
def Ev.changeMode (e : Ev) (m : Mode) (c : ChangeCause) : Ev :=
  let was := e.s.mode
  (e.mod fun s => s.modMode fun r => { r with mode := m, lastChange := (c, s.partTime) }).modeEffects was m

/-- R174: ACTIVE becomes AUTONOMOUS. -/
def Ev.enterAutonomous (e : Ev) : Ev :=
  (e.mod fun s => s.modMode fun r => { r with autonomous := inc16 r.autonomous }).changeMode .autonomous .controlSilence

/-- R170: the control-silence expiry starts. -/
def State.startSilence (s : State) : State :=
  s.modMode fun r => { r with silence := some ⟨s.partTime, s.settings.controlSilence * 1000⟩ }

/-- R175: the traffic path takes a telegram from the control station on the Control line. -/
def Ev.controlHeard (e : Ev) : Ev :=
  let e := e.mod fun s => s.startSilence.modMode fun r => { r with silent := false }
  if e.s.mode = .autonomous then e.changeMode .active .controlReturn else e

/-- R174: the control-silence expiry. -/
def Ev.silenceTaken (e : Ev) : Ev :=
  if dueNow e.s.partTime e.s.modeRec.silence then
    let e := e.mod fun s => s.modMode fun r => { r with silence := none, silent := true }
    if e.s.mode = .active then e.enterAutonomous else e
  else e

/-- Chapter 12: the mode argument of SET_MODE. -/
def wantedMode (b : Byte) : Option Mode :=
  match b.toNat with
  | 0 => some .observe
  | 1 => some .active
  | _ => none

/-- R172: SET_MODE. -/
def Ev.setMode (e : Ev) (b : Byte) : Ev × Result :=
  match wantedMode b with
  | some .observe => (if e.s.mode = .observe then e else e.changeMode .observe .setMode, .done)
  | some .active =>
    if e.s.mode ≠ .observe then (e, .done)
    else if e.s.anyActive = false then (e, .refusedState)
    else
      let e := e.changeMode .active .setMode
      (if e.s.modeRec.silent then e.enterAutonomous else e, .done)
  | _ => (e, .badArgument)

/-- R177: a time mark handed to the mode and time unit; `day` is absent where the body is not a day time. -/
def State.timeMark (s : State) (l : Line) (src : Byte) (day : Option Nat) : State :=
  if l = .control ∧ src = s.settings.control then
    match day with
    | some d =>
      if d < dayLength then
        s.modMode fun r => { r with dayRef := some (d, s.partTime), marksTaken := inc16 r.marksTaken }
      else s.modMode fun r => { r with marksRefused := inc16 r.marksRefused }
    | none => s.modMode fun r => { r with marksRefused := inc16 r.marksRefused }
  else s

/-- R178: a day has passed since the day-time reference. -/
def State.dayRollover (s : State) : State :=
  match s.modeRec.dayRef with
  | none => s
  | some (d, t) =>
    if dayLength ≤ elapsed s.partTime t then
      s.modMode fun r => { r with dayRef := some (d, t + BitVec.ofNat 32 dayLength) }
    else s

/-- R181: START_REPORT to the control station, and to the maintenance station where it is set. -/
def State.startReports (s : State) : State :=
  let s' := s.pushNormal .control (s.report kStartReport s.startReportBody)
  if s.settings.maintenance = 0 then s'
  else s'.pushNormal .field (s.telegram s.settings.maintenance kStartReport s.startReportBody)

end Sys2Proof.Machine
end

