-- ==== Sys2Proof/Machine/Tables.lean ====
section
/-! DEFINITION. The six tables (R188) in their store layout (chapter 12, "The store image"): the encoding of every entry,
and its reading with the reference checks and the clamps of R43, R58, R64, R117, R150, R188 and R189. -/

namespace Sys2Proof.Machine

open Sys2Proof

/-- R188: the six tables, numbered 0 to 5. -/
inductive Table where
  | binding | sections | points | sets | programs | settings
  deriving DecidableEq, Repr

/-- Chapter 12: a table by its number. -/
def tableOf (b : Byte) : Option Table :=
  match b.toNat with
  | 0 => some .binding
  | 1 => some .sections
  | 2 => some .points
  | 3 => some .sets
  | 4 => some .programs
  | 5 => some .settings
  | _ => none

/-- The tables in the order of R188. -/
def allTables : List Table := [.binding, .sections, .points, .sets, .programs, .settings]

/-- Chapter 12: the bytes of one entry. -/
def Table.entryBytes : Table → Nat
  | .binding => 10 | .sections => 5 | .points => 6 | .sets => 20 | .programs => 17 | .settings => 19

/-- Chapter 12: the entries of a table. -/
def Table.entries : Table → Nat
  | .binding => 64 | .sections => 9 | .points => 24 | .sets => 4 | .programs => 4 | .settings => 1

/-- R188: the index of a table's first entry. -/
def Table.first : Table → Nat
  | .binding | .sections | .settings => 0
  | .points | .sets | .programs => 1

/-- R188: the place of an index in its table, absent where it is out of range. -/
def Table.place (t : Table) (index : Byte) : Option Nat :=
  if t.first ≤ index.toNat ∧ index.toNat < t.first + t.entries then some (index.toNat - t.first) else none

/-- R188: a table written in OBSERVE only. -/
def Table.observeOnly : Table → Bool
  | .sets | .programs | .settings => true
  | .binding | .sections | .points => false

/-! ### Writing entries -/

/-- A flag at its bit. -/
def bitAt (k : Nat) (b : Bool) : Nat := if b then 2 ^ k else 0

/-- Chapter 12: the lines. -/
def lineCode : Line → Byte
  | .field => 0
  | .control => 1

/-- Chapter 12: the dispositions. -/
def Disposition.code : Disposition → Byte
  | .forward => 0 | .consume => 1 | .copy => 2 | .supervise => 3 | .discard => 4

/-- Chapter 12: role type and role object; an object the type does not use is 0 (log 18). -/
def roleBytes : Option Role → List Byte
  | none => [0, 0]
  | some (.source .primary i) => 1 :: be8 (secNum i)
  | some (.source .secondary i) => 2 :: be8 (secNum i)
  | some (.breaker (.sec i)) => 3 :: be8 (secNum i)
  | some (.breaker .station) => [4, 0]
  | some (.motor p) => 5 :: be8 (pointNum p)
  | some (.contact .approach p) => 6 :: be8 (pointNum p)
  | some (.contact .clear p) => 7 :: be8 (pointNum p)
  | some .gateway => [8, 0]

/-- Chapter 12: a binding entry in the store. -/
def Binding.bytes (b : Binding) : List Byte :=
  be8 (bitAt 0 b.active + bitAt 1 b.line.1 + bitAt 2 b.src.1 + bitAt 3 b.dst.1 + bitAt 4 b.kind.1 + bitAt 5 b.key.1
      + bitAt 6 b.rewrite.isSome)
    ++ [lineCode b.line.2, b.src.2, b.dst.2, b.kind.2, b.key.2, b.disposition.code] ++ roleBytes b.role
    ++ [b.rewrite.getD 0]

/-- Chapter 12: the station entry in the store. -/
def StationEntry.bytes (t : StationEntry) : List Byte := flag t.active ++ [t.breaker, 0, 0, 0]

/-- Chapter 12: a section entry in the store. -/
def SectionEntry.bytes (x : SectionEntry) : List Byte :=
  be8 (bitAt 0 x.active + bitAt 1 x.secondary + bitAt 2 x.blindTrip) ++ [x.breaker] ++ be8 (x.set.val + 1)
    ++ be8 (match x.program with | none => 0 | some k => k.val + 1) ++ be8 x.blindTime

/-- Chapter 12: a point entry in the store. -/
def PointEntry.bytes (x : PointEntry) : List Byte :=
  flag x.active ++ [x.motor] ++ be8 (secNum x.supply) ++ secByte x.straight ++ secByte x.diverging ++ be8 x.throwTime

/-- Chapter 12: a protection set in the store. -/
def ProtSet.bytes (p : ProtSet) : List Byte :=
  be16 p.imax ++ be16 p.rateStart ++ be16 p.rateHold ++ be16 p.deltaLimit ++ be16 p.episodeMax ++ be16 p.icont
    ++ be32 p.thermalLimit ++ be16 p.reverseLimit ++ be16 p.reverseTime

/-- Chapter 12: a program in the store, shots beyond its length written 0. -/
def Program.bytes (p : Program) : List Byte :=
  be8 p.shots.length ++ ([0, 1, 2, 3].flatMap fun k => match p.shots[k]? with
      | some x => be16 x.dead ++ flag x.test
      | none => [0, 0, 0]) ++ be16 p.testMin ++ be16 p.reclaim

/-- Chapter 12: the settings in the store. -/
def Settings.bytes (t : Settings) : List Byte :=
  [t.own, t.control, t.maintenance, t.gateway] ++ flag t.startActive
    ++ [if t.forwardDefault then Disposition.code .forward else Disposition.code .discard]
    ++ [t.fieldRates, t.controlRates] ++ be8 t.controlSilence ++ be8 t.corrWindow ++ be16 t.holdLimit
    ++ be16 t.vehicleSilence ++ be8 t.admitReports ++ be8 t.admitInterval ++ be8 t.requestLife ++ be8 t.autonomousShots
    ++ [0]

/-- The entry at a place of a table, as stored. -/
def Tables.entry (t : Tables) (tbl : Table) (k : Nat) : List Byte :=
  match tbl with
  | .binding => (t.binding[k]?.map Binding.bytes).getD []
  | .sections => match k with
    | 0 => t.station.bytes
    | k + 1 => (t.sections[k]?.map SectionEntry.bytes).getD []
  | .points => (t.points[k]?.map PointEntry.bytes).getD []
  | .sets => (t.sets[k]?.map ProtSet.bytes).getD []
  | .programs => (t.programs[k]?.map Program.bytes).getD []
  | .settings => t.settings.bytes

/-- A table whole, as STORE_SAVE writes it. -/
def Tables.table (t : Tables) (tbl : Table) : List Byte := (List.range tbl.entries).flatMap fun k => t.entry tbl k

/-! ### Reading entries -/

/-- A byte of an entry. -/
def byteAt (bs : List Byte) (k : Nat) : Byte := bs.getD k 0

/-- A field of two bytes of an entry. -/
def wordAt (bs : List Byte) (k : Nat) : Nat := read16 (byteAt bs k) (byteAt bs (k + 1))

/-- A numeric field brought into its range. -/
def clampTo (lo hi n : Nat) : Nat := max lo (min hi n)

/-- R184: a station number where a station is meant. -/
def stationOk (b : Byte) : Bool := 1 ≤ b.toNat && b.toNat ≤ 254

/-- R150: a role; none where its type is unknown or its object is outside the numbering. -/
def roleOf (type object : Byte) : Option (Option Role) :=
  match type.toNat with
  | 0 => some none
  | 1 => (secOf object.toNat).map fun i => some (.source .primary i)
  | 2 => (secOf object.toNat).map fun i => some (.source .secondary i)
  | 3 => (secOf object.toNat).map fun i => some (.breaker (.sec i))
  | 4 => some (some (.breaker .station))
  | 5 => (pointOf object.toNat).map fun p => some (.motor p)
  | 6 => (pointOf object.toNat).map fun p => some (.contact .approach p)
  | 7 => (pointOf object.toNat).map fun p => some (.contact .clear p)
  | 8 => some (some .gateway)
  | _ => none

/-- Chapter 12: a line. -/
def lineOf (b : Byte) : Option Line :=
  match b.toNat with
  | 0 => some .field
  | 1 => some .control
  | _ => none

/-- Chapter 12: a disposition. -/
def dispositionOf (b : Byte) : Option Disposition :=
  match b.toNat with
  | 0 => some .forward
  | 1 => some .consume
  | 2 => some .copy
  | 3 => some .supervise
  | 4 => some .discard
  | _ => none

/-- R150: a binding entry; none where a reference is outside its numbering. -/
def bindingOf (bs : List Byte) : Option Binding :=
  let f := byteAt bs 0
  let rewrite := f.getLsbD 6
  match lineOf (byteAt bs 1), dispositionOf (byteAt bs 6), roleOf (byteAt bs 7) (byteAt bs 8) with
  | some l, some d, some r =>
    if rewrite && byteAt bs 9 == 0 then none
    else some
      { active := f.getLsbD 0, line := (f.getLsbD 1, l), src := (f.getLsbD 2, byteAt bs 2),
        dst := (f.getLsbD 3, byteAt bs 3), kind := (f.getLsbD 4, byteAt bs 4), key := (f.getLsbD 5, byteAt bs 5),
        disposition := d, role := r, rewrite := if rewrite then some (byteAt bs 9) else none }
  | _, _, _ => none

/-- R188: the station entry. -/
def stationOf (bs : List Byte) : Option StationEntry :=
  if stationOk (byteAt bs 1) then some { active := (byteAt bs 0).getLsbD 0, breaker := byteAt bs 1 } else none

/-- A number 1 to 4 as a place. -/
def fourOf (n : Nat) : Option (Fin 4) := if h : 1 ≤ n ∧ n ≤ 4 then some ⟨n - 1, by omega⟩ else none

/-- R58, R188: a section entry. -/
def sectionOf (bs : List Byte) : Option SectionEntry :=
  let f := byteAt bs 0
  let program := (byteAt bs 3).toNat
  match fourOf (byteAt bs 2).toNat with
  | some set =>
    if stationOk (byteAt bs 1) && decide (program ≤ 4) then
      some { active := f.getLsbD 0, breaker := byteAt bs 1, set := set, program := fourOf program,
             secondary := f.getLsbD 1, blindTrip := f.getLsbD 2, blindTime := clampTo 1 100 (byteAt bs 4).toNat }
    else none
  | none => none

/-- R117, R188: a point entry. -/
def pointEntryOf (bs : List Byte) : Option PointEntry :=
  match secOf (byteAt bs 2).toNat with
  | some supply =>
    if stationOk (byteAt bs 1) && decide ((byteAt bs 3).toNat ≤ 8) && decide ((byteAt bs 4).toNat ≤ 8) then
      some { active := byteAt bs 0 != 0, motor := byteAt bs 1, supply := supply, straight := secOf (byteAt bs 3).toNat,
             diverging := secOf (byteAt bs 4).toNat, throwTime := clampTo 5 50 (byteAt bs 5).toNat }
    else none
  | none => none

/-- R43: a protection set brought into range; its limits are read as unsigned numbers (DESIGN CHOICE; log 52). -/
def protSetOf (bs : List Byte) : ProtSet :=
  let rateStart := clampTo 10 400 (wordAt bs 2)
  { imax := clampTo 500 7000 (wordAt bs 0),
    rateStart := rateStart,
    rateHold := min rateStart (clampTo 5 400 (wordAt bs 4)),
    deltaLimit := clampTo 100 5000 (wordAt bs 6),
    episodeMax := clampTo 4 400 (wordAt bs 8),
    icont := clampTo 100 3000 (wordAt bs 10) / 10 * 10,
    thermalLimit := clampTo 1 1000000 (wordAt bs 12 * 65536 + wordAt bs 14),
    reverseLimit := clampTo 100 3000 (wordAt bs 16),
    reverseTime := clampTo 4 4000 (wordAt bs 18) }

/-- R64: a program brought into range. -/
def programEntryOf (bs : List Byte) : Program :=
  { shots := (List.range (clampTo 1 4 (byteAt bs 0).toNat)).map fun k =>
      ⟨clampTo 1 600 (wordAt bs (1 + 3 * k)), byteAt bs (3 + 3 * k) != 0⟩,
    testMin := clampTo 100 20000 (wordAt bs 13),
    reclaim := clampTo 1 300 (wordAt bs 15) }

/-- R155: a rate set with 9600 added. -/
def rateSetOf (b : Byte) : Byte := (b &&& 0x0F) ||| 1

/-- R189: the settings; none where a station number, StartMode or the default disposition is out of range. -/
def settingsOf (bs : List Byte) : Option Settings :=
  let own := byteAt bs 0
  let control := byteAt bs 1
  let maintenance := byteAt bs 2
  let gateway := byteAt bs 3
  let start := byteAt bs 4
  let disposition := byteAt bs 5
  if stationOk own && stationOk control && control != own && maintenance != 255 && maintenance != own
      && maintenance != control && gateway != 255 && gateway != own && decide (start.toNat ≤ 1)
      && (disposition == 0 || disposition == 4) then
    some
      { own := own, control := control, maintenance := maintenance, gateway := gateway, startActive := start == 1,
        forwardDefault := disposition == 0, fieldRates := rateSetOf (byteAt bs 6),
        controlRates := rateSetOf (byteAt bs 7), controlSilence := clampTo 2 120 (byteAt bs 8).toNat,
        corrWindow := clampTo 5 50 (byteAt bs 9).toNat, holdLimit := clampTo 10 300 (wordAt bs 10),
        vehicleSilence := clampTo 60 900 (wordAt bs 12), admitReports := clampTo 1 2 (byteAt bs 14).toNat,
        admitInterval := clampTo 5 100 (byteAt bs 15).toNat, requestLife := clampTo 5 120 (byteAt bs 16).toNat,
        autonomousShots := min 4 (byteAt bs 17).toNat }
  else none

/-- R188: put an entry at a place of a table; `keep` says that the active flag stays (WRITE_ENTRY; log 18). None where a
reference is outside its numbering. -/
def Tables.put (t : Tables) (tbl : Table) (k : Nat) (bs : List Byte) (keep : Bool) : Option Tables :=
  match tbl with
  | .binding =>
    if h : k < 64 then (bindingOf bs).map fun b =>
      { t with binding := t.binding.set k (if keep then { b with active := t.binding[k].active } else b) }
    else none
  | .sections =>
    match k with
    | 0 => (stationOf bs).map fun x => { t with station := if keep then { x with active := t.station.active } else x }
    | j + 1 =>
      if h : j < 8 then (sectionOf bs).map fun x =>
        { t with sections := t.sections.set j (if keep then { x with active := t.sections[j].active } else x) }
      else none
  | .points =>
    if h : k < 24 then (pointEntryOf bs).map fun x =>
      { t with points := t.points.set k (if keep then { x with active := t.points[k].active } else x) }
    else none
  | .sets => if h : k < 4 then some { t with sets := t.sets.set k (protSetOf bs) } else none
  | .programs => if h : k < 4 then some { t with programs := t.programs.set k (programEntryOf bs) } else none
  | .settings => (settingsOf bs).map fun x => { t with settings := x }

/-- R188: whether the entry at a place of a table is active. -/
def Tables.activeAt (t : Tables) (tbl : Table) (k : Nat) : Bool :=
  match tbl with
  | .binding => t.binding[k]?.any Binding.active
  | .sections => match k with
    | 0 => t.station.active
    | j + 1 => t.sections[j]?.any SectionEntry.active
  | .points => t.points[k]?.any PointEntry.active
  | .sets | .programs | .settings => false

/-- R192, step 4: a present table of an image: its entries fill the first places; the rest keep their defaults. -/
def Tables.fill (tbl : Table) (bs : List Byte) : Nat → Tables → Option Tables
  | 0, t => some t
  | n + 1, t =>
    match Tables.fill tbl bs n t with
    | none => none
    | some t => t.put tbl n ((bs.drop (n * tbl.entryBytes)).take tbl.entryBytes) false

end Sys2Proof.Machine
end

