-- ==== Sys2Proof/Machine/Store.lean ====
section
/-! DEFINITION. The store interface (11.4): memory transactions and their expiry (R191), the judgement of an image (R192),
the load (R192, R171), STORE_READ and STORE_WRITE (R193), STORE_SAVE (R194) and STORE_RELOAD (R195). -/

namespace Sys2Proof.Machine

open Sys2Proof

/-! ### The image -/

/-- R190: the signature. -/
def signature : List Byte := [0x5B, 0xC7]

/-- R190: a directory entry: offset and length. -/
def directoryEntry (got : List Byte) (k : Nat) : Nat × Nat := (wordAt got (2 + 4 * k), wordAt got (4 + 4 * k))

/-- R190, R192: the tables with their directory entries. -/
def directory (got : List Byte) : List (Table × Nat × Nat) :=
  (allTables.zip (List.range 6)).map fun x => (x.1, directoryEntry got x.2)

/-- R192, step 2: a directory entry is in order; a length of 0 marks an absent table (log 8). -/
def entryInOrder (x : Table × Nat × Nat) : Bool :=
  decide (tablesStart ≤ x.2.1) && decide (x.2.1 + x.2.2 ≤ storeSize) && x.2.2 % x.1.entryBytes == 0
    && decide (x.2.2 / x.1.entryBytes ≤ x.1.entries)

/-- R190: where the check word stands: after the present table that ends furthest in, or after the directory. -/
def imageEnd (got : List Byte) : Nat :=
  (directory got).foldl (fun m x => if x.2.2 = 0 then m else max m (x.2.1 + x.2.2)) tablesStart

/-- R192, step 4: the tables of an image whose check word is right; none where a reference is out of range. -/
def imageTables (got : List Byte) : Option Tables :=
  (directory got).foldl (fun t x => t.bind fun t =>
    Tables.fill x.1 ((got.drop x.2.1).take x.2.2) (x.2.2 / x.1.entryBytes) t) (some defaultTables)

/-- R192, steps 3 and 4: an image read whole is judged. -/
def judgeImage (got : List Byte) : StoreStatus × Option Tables :=
  let stop := imageEnd got
  if (crc (got.take stop)).toNat ≠ wordAt got stop then (.invalid, none)
  else match imageTables got with
    | none => (.invalid, none)
    | some t => (.loaded, some t)

/-- R191, R192: what the reading of an image does next: one more run, or the judgement. -/
inductive ImageStep where
  | more (address count : Nat)
  | done (status : StoreStatus) (tables : Option Tables)
  deriving DecidableEq, Repr

/-- R192: the reading of an image, with the bytes got so far: the signature, the directory, then the tables and the check
word in runs of at most 32 bytes (log 8). -/
def imageStep (got : List Byte) : ImageStep :=
  if got.length < 2 then .more 0 2
  else if got.take 2 ≠ signature then .done .absent none
  else if got.length < tablesStart then .more 2 24
  else if (directory got).any fun x => !entryInOrder x then .done .invalid none
  else if storeSize < imageEnd got + 2 then .done .invalid none
  else if got.length < imageEnd got + 2 then .more got.length (min runLength (imageEnd got + 2 - got.length))
  else
    let r := judgeImage got
    .done r.1 r.2

/-- R194: the offsets and lengths of a saved directory. -/
def savedDirectory : List Byte :=
  (allTables.foldl (fun (acc : List Byte × Nat) t =>
    let n := t.entryBytes * t.entries
    (acc.1 ++ be16 acc.2 ++ be16 n, acc.2 + n)) ([], tablesStart)).1

/-- R194: directory and tables of a saved image, from byte 2. -/
def Tables.saved (t : Tables) : List Byte := savedDirectory ++ allTables.flatMap t.table

/-- R191: cut bytes into write transactions of 32 bytes, the last of what is left, from an address (DESIGN CHOICE; log 8);
`fuel` bounds the runs. -/
def cutRuns (a : Nat) (bs : List Byte) : Nat → List Transfer
  | 0 => []
  | fuel + 1 =>
    if bs.isEmpty then []
    else .write a (bs.take runLength) :: cutRuns (a + runLength) (bs.drop runLength) fuel

/-- R194: the transactions of a save: the signature zeroed, the copy, the check word, the signature. The check word is a
run of its own (DESIGN CHOICE; log 8). -/
def Tables.saveRuns (t : Tables) : List Transfer :=
  let body := t.saved
  .write 0 [0, 0] :: cutRuns 2 body body.length
    ++ [.write (2 + body.length) (be16 (crc (signature ++ body)).toNat), .write 0 signature]

/-! ### Transactions -/

/-- Change the store record. -/
def State.modStore (s : State) (f : StoreRecord → StoreRecord) : State := { s with store := f s.store }

/-- R191: begin a transaction; its expiry starts. -/
def State.begin (s : State) (t : Transfer) : State :=
  s.modStore fun r => { r with trans := some (t, ⟨s.partTime, transactionTime⟩) }

/-- R191: a requested operation is taken with its first transaction. -/
def State.takeOperation (s : State) (op : StoreOp) (req : Req) (code : Byte) (t : Transfer) : State :=
  (s.modStore fun r => { r with op := some op, requester := some ⟨req, code⟩ }).begin t

/-- R191: the operation is over. -/
def State.endOperation (s : State) : State :=
  s.modStore fun r => { r with op := none, requester := none, trans := none }

/-- R184: an MG_REPLY. -/
def State.mgReply (s : State) (req : Req) (code : Byte) (r : Result) (data : List Byte) : Telegram :=
  s.telegram req.src kMgReply ([req.tag, code, r.code] ++ data)

/-- R191: the answer to a requested operation goes to the recorded requester (log 28). -/
def Ev.answerRequester (e : Ev) (q : Option Requester) (r : Result) (data : List Byte) : Ev :=
  match q with
  | none => e
  | some q => e.answer q.req.line (e.s.mgReply q.req q.code r data)

/-- R191: a requested operation ends with its answer. -/
def Ev.endRequest (e : Ev) (r : Result) (data : List Byte) : Ev :=
  let q := e.s.store.requester
  (e.mod State.endOperation).answerRequester q r data

/-- R190, R191: a write transaction is complete. -/
def State.commit (s : State) (a : Nat) (bs : List Byte) : State := { s with storeMem := writeRun s.storeMem a bs }

/-- R191: a write transaction ended early; which bytes it wrote is free (log 7). -/
def State.commitSome (s : State) (a : Nat) (bs : List Byte) : State :=
  { s with storeMem := writeSome s.storeMem (Config.writtenOfRun s.freeCount) a 0 bs, freeCount := s.freeCount + 1 }

/-- R179, R191: the outstanding transaction ends early. -/
def State.cutTransaction (s : State) : State :=
  match s.store.trans with
  | some (.write a bs, _) => s.commitSome a bs
  | _ => s

/-! ### The load -/

/-- R171: the mode at the end of the load. -/
def Ev.startMode (e : Ev) : Ev :=
  let e := e.mod fun s => s.startSilence.modMode fun r =>
    { r with silent := false, lastChange := (.start, s.partTime) }
  if e.s.store.status = .loaded ∧ e.s.settings.startActive = true ∧ e.s.anyActive = true then
    e.changeMode .active .start
  else e

/-- R192: the end of the load: the tables take effect together, with the mode (R171), the ports (R161) and START_REPORT
(R181). -/
def Ev.loadEnd (e : Ev) (status : StoreStatus) (t : Option Tables) : Ev :=
  let e := e.mod fun s =>
    { s.endOperation.modStore fun r => { r with status := status } with tables := t.getD defaultTables }
  let e := e.forSecs fun e i => if (e.s.secEntry i).active then e.mod fun s => s.startBlind i else e
  let e := e.forPoints fun e p => if (e.s.pointEntry p).active then e.mod fun s => s.activatePoint p else e
  (e.startMode.mod fun s => (s.ratesChanged .field).ratesChanged .control).mod State.startReports

/-! ### STORE_RELOAD -/

/-- R180, R195: a breaker order in flight. -/
def State.ordering (s : State) : Bool :=
  s.secs.toList.any (fun x => x.ctl.state == .closing || x.ctl.state == .opening || x.ctl.state == .tripping)
    || s.station.state == .closing || s.station.state == .tripping

/-- R180, R195: a point THROWING. -/
def State.throwing (s : State) : Bool := s.points.toList.any fun x => x.activity == .throwing

/-- R195: the state checks of STORE_RELOAD. -/
def State.reloadAllowed (s : State) : Bool := s.mode == .observe && !s.ordering && !s.throwing

/-- R188: the deactivation of the station may be taken. -/
def State.mayDeactivateStation (s : State) : Bool :=
  (s.station.state == .opened || s.station.state == .failed) && !s.station.tripLine

/-- R195: an image would make inactive nothing whose deactivation is refused. -/
def State.reloadFits (s : State) (t : Tables) : Bool :=
  (allSecs.all fun i => !(s.secEntry i).active || t.sections[i].active || s.mayDeactivate i)
    && (!s.tables.station.active || t.station.active || s.mayDeactivateStation)

/-- R1, R62, R81, R97: one section when the tables are replaced. -/
def Ev.sectionReplaced (e : Ev) (old : Tables) (i : SecNo) : Ev :=
  match old.sections[i].active, (e.s.secEntry i).active with
  | true, true => e.reloadSection i old.sections[i]
  | true, false => e.deactivateSection i
  | false, true => (e.mod fun s => s.activateSection i).derive i
  | false, false => e

/-- R118: one point when the tables are replaced; supply live of a point that stays active is read at the event's end. -/
def Ev.pointReplaced (e : Ev) (old : Tables) (p : PointNo) : Ev :=
  match old.points[p].active, (e.s.pointEntry p).active with
  | true, false => e.mod fun s => s.dropPoint p
  | false, true => e.mod fun s => s.activatePoint p
  | _, _ => e

/-- R195: every table is replaced within one event; sections and then points are taken in ascending order (logs 28, 49). -/
def Ev.replaceTables (e : Ev) (t : Tables) : Ev :=
  let old := e.s.tables
  let e := e.mod fun s => { s with tables := t, bindCounts := s.bindCounts.map fun _ => ⟨0, 0⟩ }
  let e := e.forSecs fun e i => e.sectionReplaced old i
  let e := e.forPoints fun e p => e.pointReplaced old p
  e.mod fun s => (s.ratesChanged .field).ratesChanged .control

/-- R195: the end of the reading of a STORE_RELOAD. -/
def Ev.reloadEnd (e : Ev) (status : StoreStatus) (t : Option Tables) : Ev :=
  let s := e.s
  if !s.reloadAllowed || t.any fun t => !s.reloadFits t then e.endRequest .refusedState []
  else
    let e := e.mod fun s => s.modStore fun r => { r with status := status }
    match t with
    | some t => (e.replaceTables t).endRequest .done []
    | none => e.endRequest (if status = .timeout then .storeTimeout else .failed) []

/-! ### Answers and expiries of transactions -/

/-- R192, R195: the reading of an image goes on, or ends. -/
def Ev.imageGoesOn (e : Ev) (got : List Byte) (op : List Byte → StoreOp)
    (stop : Ev → StoreStatus → Option Tables → Ev) : Ev :=
  match imageStep got with
  | .more a n => e.mod fun s => (s.modStore fun r => { r with op := some (op got) }).begin (.read a n)
  | .done st t => stop e st t

/-- R193, R194: a write transaction of an operation is complete. -/
def Ev.writeAnswered (e : Ev) : Ev :=
  match e.s.store.op with
  | some (.save (t :: rest)) => e.mod fun s => (s.modStore fun r => { r with op := some (.save rest) }).begin t
  | _ => e.endRequest .done []

/-- R192, R193, R195: a read transaction of an operation is answered with its bytes. -/
def Ev.readAnswered (e : Ev) (bs : List Byte) : Ev :=
  match e.s.store.op with
  | some (.load got) => e.imageGoesOn (got ++ bs) StoreOp.load Ev.loadEnd
  | some (.reload got) => e.imageGoesOn (got ++ bs) StoreOp.reload Ev.reloadEnd
  | _ => e.endRequest .done bs

/-- R191: the memory answers the outstanding transaction; with none outstanding the answer is ignored. -/
def Ev.transactionAnswered (e : Ev) : Ev :=
  match e.s.store.trans with
  | none => e
  | some (.read a n, _) =>
    let bs := readRun e.s.storeMem a n
    (e.mod fun s => s.modStore fun r => { r with trans := none }).readAnswered bs
  | some (.write a bs, _) =>
    (e.mod fun s => (s.commit a bs).modStore fun r => { r with trans := none }).writeAnswered

/-- R191 to R195: a transaction has timed out. -/
def Ev.timedOut (e : Ev) : Ev :=
  let e := e.mod fun s => s.cutTransaction.modStore fun r => { r with trans := none }
  match e.s.store.op with
  | some (.load _) => e.loadEnd .timeout none
  | some (.reload _) => e.reloadEnd .timeout none
  | _ => e.endRequest .storeTimeout []

/-- R191: the transaction expiry. -/
def Ev.transactionExpiry (e : Ev) : Ev :=
  if dueNow e.s.partTime (e.s.store.trans.map Prod.snd) then e.timedOut else e

/-! ### Requests -/

/-- R193: a run lies in the store. -/
def runInStore (a n : Nat) : Bool := 1 ≤ n && n ≤ 32 && a ≤ 8191 && a + n ≤ storeSize

/-- R191, R193: STORE_READ. The argument checks come before BUSY (log 33); none is the answer given later. -/
def Ev.storeRead (e : Ev) (req : Req) (code : Byte) (a n : Nat) : Ev × Option Result :=
  if !runInStore a n then (e, some .badArgument)
  else if e.s.store.op.isSome then (e, some .busy)
  else (e.mod fun s => s.takeOperation .read req code (.read a n), none)

/-- R191, R193: STORE_WRITE. -/
def Ev.storeWrite (e : Ev) (req : Req) (code : Byte) (a : Nat) (bs : List Byte) : Ev × Option Result :=
  if !runInStore a bs.length then (e, some .badArgument)
  else if e.s.store.op.isSome then (e, some .busy)
  else (e.mod fun s => s.takeOperation .write req code (.write a bs), none)

/-- R191, R194: STORE_SAVE. -/
def Ev.storeSave (e : Ev) (req : Req) (code : Byte) : Ev × Option Result :=
  if e.s.store.op.isSome then (e, some .busy)
  else match e.s.tables.saveRuns with
    | [] => (e, none)
    | t :: rest => (e.mod fun s => s.takeOperation (.save rest) req code t, none)

/-- R191, R195: STORE_RELOAD. -/
def Ev.storeReload (e : Ev) (req : Req) (code : Byte) : Ev × Option Result :=
  if e.s.store.op.isSome then (e, some .busy)
  else if !e.s.reloadAllowed then (e, some .refusedState)
  else (e.mod fun s => s.takeOperation (.reload []) req code (.read 0 2), none)

end Sys2Proof.Machine
end

