-- ==== Sys2Proof/Machine/Restart.lean ====
section
/-! DEFINITION. Restarts (10.7): the cold restart and its causes (R179) and the warm restart (R180), which puts every block
at the warm-restart column of its record table. -/

namespace Sys2Proof.Machine

open Sys2Proof

/-! ### Cold restarts -/

/-- R179: a cold restart ends: every block takes its cold-restart values and the load begins. Kept are the pins, the
store's contents, the model's own counter and the queue of commands; part time starts at 0 (log 4). -/
def State.coldStart (s : State) (cause : RestartCause) (tag : Option Byte) : State :=
  let s' := s.cutTransaction
  { State.reset with
    supplyUp := s.supplyUp, resetLine := s.resetLine, modeRec := coldMode cause tag, storeMem := s'.storeMem,
    freeCount := s'.freeCount, pending := s.pending }

/-- R179: the part is held in reset: the supply is below its working level or the reset line is asserted. -/
def State.held (s : State) : Bool := !s.supplyUp || s.resetLine

/-- R179: a cold restart begins: every trip line is released, and a store operation in flight is interrupted. -/
def State.hold (s : State) : State := s.cutTransaction.endOperation.releaseAllLines

/-- R179: the supply returns, with the cause that the part's record of it leaves. -/
def State.supplyReturns (s : State) (cause : RestartCause) : State :=
  let s := { s with supplyUp := true }
  if s.resetLine then s.hold else s.coldStart cause none

/-- R179: the supply fails. -/
def State.supplyFails (s : State) : State := { s.hold with supplyUp := false }

/-- R179: the reset line is asserted. -/
def State.assertReset (s : State) : State := { s.hold with resetLine := true }

/-- R179: the reset line is released; a release of a line that is not asserted changes nothing (log 3). -/
def State.releaseReset (s : State) : State :=
  if s.resetLine then
    let s := { s with resetLine := false }
    if s.supplyUp then s.coldStart .resetLine none else s
  else s

/-- R192: the configuration is being loaded at start-up. -/
def State.loading (s : State) : Bool :=
  match s.store.op with
  | some (.load _) => true
  | _ => false

/-! ### The warm restart -/

/-- R27: the warm-restart column of the feeder computation record. -/
def Feeder.warm (f : Feeder) : Feeder :=
  { coldFeeder with h := f.h, unexpRaised := f.unexpRaised, aboveHalf := f.aboveHalf }

/-- R65: the warm-restart column of the reclose record. -/
def Reclose.warm (r : Reclose) : Reclose :=
  { coldReclose with
    shots := r.shots, phase := if r.phase = .gating ∨ r.phase = .testing then .idle else r.phase, tripKind := r.tripKind,
    reclaim := r.reclaim, lastTest := r.lastTest }

/-- R1, R27, R49, R52, R65: one section at a warm restart; a WAITING or TESTING section is locked out (R78). -/
def Ev.warmSection (e : Ev) (i : SecNo) : Ev :=
  let st := (e.s.sec i).ctl.state
  let e := if st = .waiting ∨ st = .testing then e.lockout i .restart else e
  e.mod fun s =>
    let s := s.modSec i fun x =>
      { x with ctl := { x.ctl with pending := none, former := none }, feed := x.feed.warm, prim := coldSource,
               seco := coldSource, sel := coldSelector, rcl := x.rcl.warm }
    if (s.secEntry i).active then s.startBlind i else s

/-- R117: one point at a warm restart. -/
def State.warmPoint (s : State) (p : PointNo) : State :=
  (s.refuseAll p .outOfService).modPoint p fun x => { x with motion := none, counters := coldPointCounters }

/-- R170: the mode record at a warm restart. -/
def ModeRecord.warm (r : ModeRecord) (now : PartTime) (silence : Nat) (tag : Byte) : ModeRecord :=
  { r with cause := .warmRequest, tag := some tag, autonomous := 0, marksTaken := 0, marksRefused := 0,
           silence := if r.silent then none else some ⟨now, silence⟩ }

/-- R99: the vehicle table's counters at 0. -/
def VehicleTable.cleared (t : VehicleTable) : VehicleTable :=
  { coldVehicles with entries := t.entries, lastFull := t.lastFull, refusals := t.refusals }

/-- R180, steps 1 to 3, the records of sections and points apart. -/
def State.warmRecords (s : State) (tag : Byte) : State :=
  { s with
    modeRec := s.modeRec.warm s.partTime (s.settings.controlSilence * 1000) tag,
    fieldPort := s.fieldPort.warm s.partTime, controlPort := s.controlPort.warm s.partTime,
    station := { s.station with pending := none },
    incidents := { s.incidents with evictions := 0 },
    vehicles := { s.vehicles.cleared with lastFull := none, refusals := 0 },
    bindCounts := s.bindCounts.map fun _ => ⟨0, 0⟩,
    commands := coldCommands,
    store := { s.store with op := none, requester := none, trans := none } }

/-- R180: the warm restart: the records, START_REPORT, then the sections and points with the telegrams they cause; the
counters are 0 after those (log 23). The points refuse their requests in ascending order, each oldest first (DESIGN CHOICE;
log 49). -/
def Ev.warmRestart (e : Ev) (tag : Byte) : Ev :=
  let e := e.mod fun s => (s.warmRecords tag).startReports
  let e := e.forSecs Ev.warmSection
  let e := e.forPoints fun e p => e.mod fun s => s.warmPoint p
  e.mod fun s => { s with supervisor := coldSupervisor }

/-- R180: the refusal conditions of a warm restart. -/
def State.warmRefused (s : State) : Bool := s.ordering || s.throwing || s.store.op.isSome

end Sys2Proof.Machine
end

