-- ==== Sys2Proof/Machine/Manage.lean ====
section
/-! DEFINITION. What the management requests read and change (11.2, 11.3): the data of READ_STATE, READ_COUNTERS and
READ_INCIDENT, CLEAR_COUNTERS, CLEAR_INCIDENTS, READ_ENTRY, WRITE_ENTRY and ENTRY_ACTIVE. -/

namespace Sys2Proof.Machine

open Sys2Proof

/-! ### READ_STATE -/

/-- R46: the feeder computation record; I_base, Elapsed and the rise stand while the episode is RISING. -/
def Feeder.bytes (f : Feeder) (limit : Nat) : List Byte :=
  let rising {α : Type} (x : α) : Option α := if f.rising then some x else none
  flag f.rising ++ current2 (rising f.iBase) ++ elapsed2 (rising f.elapsed)
    ++ current2 (if f.rising then f.prev.map fun x => x.1 - f.iBase else none)
    ++ current2 (f.prev.map Prod.fst) ++ presence 2 (f.prev.map fun x => be16 x.2.toNat)
    ++ be40 f.h ++ be8 (thermalPercent limit f.h) ++ be8 f.unexpRun ++ flag f.unexpRaised ++ be16 f.revRun
    ++ flag f.revRaised ++ be16 f.dup ++ be16 f.gap ++ be16 f.saturated ++ be16 f.malformed

/-- R63: a source record. -/
def Source.bytes (x : Source) : List Byte :=
  presence 2 (x.last.map fun l => be16 l.1.toNat) ++ partTimeOpt (x.last.map Prod.snd) ++ be8 x.run ++ flag x.fresh

/-- R63: the selector record. -/
def Selector.bytes (x : Selector) (now : PartTime) : List Byte :=
  [x.state.code] ++ partTimeOpt x.blindSince ++ remainingOpt now x.blindExpiry ++ flag x.overdue ++ be16 x.changes
    ++ be16 x.blinds

/-- R82: the reclose record; the codes chapter 12 leaves open are free (log 9). The last test's judged mark goes as a yes or
no, 1 for judged (DESIGN CHOICE; log 45). -/
def Reclose.bytes (r : Reclose) (now : PartTime) (limit : Option Nat) : List Byte :=
  be8 r.shots ++ [r.phase.code] ++ [match r.nextShot with | none => Config.absentNextShot | some n => BitVec.ofNat 8 n]
    ++ remainingOpt now r.dead ++ remainingOpt now r.hold ++ remainingOpt now r.lineTest ++ remainingOpt now r.reclaim
    ++ flag r.holdOverdue ++ flag r.gates.deadTime ++ flag r.gates.window ++ flag r.gates.vehicles
    ++ flag r.gates.thermal ++ flag r.gates.source ++ flag r.gates.station
    ++ presence 2 (r.lastTest.map fun t => be16 t.result.toNat) ++ partTimeOpt (r.lastTest.map LineTest.arrived)
    ++ flagOpt (r.lastTest.map LineTest.judged)
    ++ [match limit with | none => Config.noShotLimit | some n => BitVec.ofNat 8 n]

/-- R187: a section: R26, R46, R63, R82. -/
def State.sectionBytes (s : State) (i : SecNo) : List Byte :=
  let x := s.sec i
  s.sectionReportBody i ++ x.feed.bytes (s.setOf i).thermalLimit ++ x.sel.bytes s.partTime ++ x.prim.bytes
    ++ x.seco.bytes ++ x.rcl.bytes s.partTime (s.shotLimit i)

/-- R187, R19: the station record, then the nine trip lines, one byte each in object order (DESIGN CHOICE; log 45). -/
def State.stationBytes (s : State) : List Byte :=
  let t := s.station
  flag s.tables.station.active ++ [s.tables.station.breaker] ++ [t.state.code, t.reason.code, t.position.code]
    ++ enumOpt OrderKind.listCode (t.pending.map PendingOrder.order)
    ++ enumOpt Origin.stationCode (t.pending.map PendingOrder.origin) ++ flagOpt (t.pending.map PendingOrder.usesLine)
    ++ expiryOpt (t.pending.map PendingOrder.expiry) ++ [tripLineCode t.tripLine] ++ s.tripLines.map tripLineCode

/-- R137: a queued request. -/
def Request.bytes (q : Request) (now : PartTime) : List Byte :=
  be16 q.vehicle ++ [q.leg.code] ++ partTime4 q.arrival ++ flag q.granted.isSome ++ partTimeOpt q.granted
    ++ be32 (q.life.remaining now)

/-- R117: a point's counters. -/
def PointCounters.bytes (c : PointCounters) : List Byte :=
  [c.reports, c.passages, c.queued, c.grants, c.refusals, c.throws, c.failures].flatMap be16

/-- R117: the supervisor's counters. -/
def SupervisorCounters.bytes (c : SupervisorCounters) : List Byte :=
  [c.malformed, c.droppedObserve, c.noGateway, c.roleMismatch, c.inactiveObjects].flatMap be16

/-- R137: a point. -/
def State.pointBytes (s : State) (p : PointNo) : List Byte :=
  let x := s.point p
  (s.pointEntry p).bytes ++ [x.position.code] ++ enumOpt Blade.code x.candidate ++ [x.activity.code]
    ++ enumOpt PointFailReason.code x.failure ++ enumOpt Leg.code (x.motion.map Motion.leg)
    ++ enumOpt ThrowOrigin.code (x.motion.map Motion.origin) ++ remainingOpt s.partTime (x.motion.map Motion.expiry)
    ++ be8 x.occupancy ++ flag x.countError ++ enumOpt Leg.code x.lock ++ number2 x.obstruction ++ flag x.supplyLive
    ++ be8 x.queue.length ++ x.queue.flatMap (fun q => q.bytes s.partTime) ++ x.counters.bytes ++ s.supervisor.bytes

/-- R99: the tracker's nine counters. -/
def VehicleTable.counterBytes (t : VehicleTable) : List Byte :=
  [t.taken, t.badNumbers, t.malformed, t.provExpiries, t.replacements, t.tableFull, t.silenceRemovals, t.orders,
    t.noGateway].flatMap be16

/-- R116: an entry of the vehicle table. -/
def State.vehicleBytes (s : State) (v : Vehicle) : List Byte :=
  be16 v.number ++ flag v.admitted ++ secByte v.loc ++ [v.source.code, v.state.code] ++ faultBytes v.faults
    ++ partTime4 v.lastHeard ++ expiryOpt v.admission ++ expiryOpt v.silence ++ be8 v.attributed
    ++ pointByte (v.lastPoint.map Prod.fst) ++ partTimeOpt (v.lastPoint.map Prod.snd) ++ pointByte v.obstruction
    ++ number2 (v.lastOrder.map Prod.fst) ++ partTimeOpt (v.lastOrder.map Prod.snd)
    ++ remainingOpt s.partTime (if v.admitted then v.silence else v.admission)
    ++ be8 s.vehicles.entries.length ++ s.vehicles.counterBytes

/-- R116: the entry with the smallest number at or above `n`; the entries stand in rising order. -/
def State.vehicleFrom (s : State) (n : Nat) : Option Vehicle := s.vehicles.entries.find? fun v => decide (n ≤ v.number)

/-- R168: a line's nine counters. -/
def LineCounters.bytes (c : LineCounters) : List Byte :=
  [c.valid, c.formats, c.checks, c.babbles, c.overruns, c.forwarded, c.consumed, c.discarded, c.txDiscards].flatMap be32

/-- R169: a line. -/
def State.lineBytes (s : State) (l : Line) : List Byte :=
  let p := s.port l
  [p.link.code, p.rate.code] ++ enumOpt Partner.code p.partner
    ++ [match p.resolved with | none => 0 | some r => r.code] ++ flag p.ackReceived ++ flag p.partnerOver
    ++ partTimeOpt p.upSince ++ remainingOpt s.partTime p.partnerExp ++ remainingOpt s.partTime p.quiet
    ++ [p.rx.code] ++ be8 p.buffer.length ++ be8 p.urgent.length ++ be8 p.normal.length
    ++ be8 p.urgent.length ++ p.urgent.flatMap (fun o => be8 (BreakerObj.num o.obj) ++ [o.order.listCode]) ++ p.counters.bytes

/-- R182: the part. -/
def State.partBytes (s : State) : List Byte :=
  let r := s.modeRec
  [r.mode.code] ++ [r.lastChange.1.code] ++ partTime4 r.lastChange.2
    ++ flag r.silent ++ remainingOpt s.partTime r.silence ++ dayTime4 s.dayTime ++ dayTime4 (r.dayRef.map Prod.fst)
    ++ partTimeOpt (r.dayRef.map Prod.snd) ++ [r.cause.code] ++ presence 1 (r.tag.map fun t => [t])
    ++ [s.store.status.code] ++ be16 r.autonomous ++ be16 r.marksTaken ++ be16 r.marksRefused

/-- R187: the length of a part or piece. -/
def pieceLength : Nat := 43

/-- R187, R95: part `k` of a run of bytes, with its number and the number of parts; none at or beyond that number. -/
def piece (bs : List Byte) (k : Nat) : Option (List Byte) :=
  let n := (bs.length + pieceLength - 1) / pieceLength
  if k < n then some (be8 k ++ be8 n ++ (bs.drop (k * pieceLength)).take pieceLength) else none

/-- An answer of a request: its result and data. -/
abbrev Answer := Result × List Byte

/-- R187, R95: a part of a run of bytes as an answer. -/
def pieceAnswer (bs : List Byte) (k : Nat) : Answer :=
  match piece bs k with
  | none => (.badArgument, [])
  | some d => (.done, d)

/-- R187: READ_STATE. -/
def State.readState (s : State) (kind : Byte) (number : Nat) (part : Nat) : Answer :=
  match kind.toNat with
  | 0 => match secOf number with
    | some i => pieceAnswer (s.sectionBytes i) part
    | none => (.badArgument, [])
  | 1 => if number = 0 then pieceAnswer s.stationBytes part else (.badArgument, [])
  | 2 => match pointOf number with
    | some p => pieceAnswer (s.pointBytes p) part
    | none => (.badArgument, [])
  | 3 =>
    if 9999 < number then (.badArgument, [])
    else match s.vehicleFrom number with
      | some v => pieceAnswer (s.vehicleBytes v) part
      | none => (.failed, [])
  | 4 => match number with
    | 0 => pieceAnswer (s.lineBytes .field) part
    | 1 => pieceAnswer (s.lineBytes .control) part
    | _ => (.badArgument, [])
  | 5 => if number = 0 then pieceAnswer s.partBytes part else (.badArgument, [])
  | _ => (.badArgument, [])

/-! ### Counters -/

/-- R187: READ_COUNTERS. -/
def State.readCounters (s : State) (group : Byte) : Answer :=
  match group.toNat with
  | 0 => (.done, s.fieldPort.counters.bytes)
  | 1 => (.done, s.controlPort.counters.bytes)
  | 2 => (.done, [s.commands.commands, s.commands.requests, s.commands.notPermitted, s.commands.malformed,
      s.incidents.evictions].flatMap be16 ++ s.vehicles.counterBytes ++ s.supervisor.bytes)
  | _ => (.badArgument, [])

/-- R47, R63: a section's counts at 0. -/
def Sec.cleared (x : Sec) : Sec :=
  { x with feed := { x.feed with dup := 0, gap := 0, saturated := 0, malformed := 0 },
           sel := { x.sel with changes := 0, blinds := 0 } }

/-- R187: CLEAR_COUNTERS. -/
def State.clearCounters (s : State) : State :=
  { s with
    fieldPort := { s.fieldPort with counters := coldLineCounters },
    controlPort := { s.controlPort with counters := coldLineCounters },
    bindCounts := s.bindCounts.map fun _ => ⟨0, 0⟩,
    secs := s.secs.map Sec.cleared,
    incidents := { s.incidents with evictions := 0 },
    vehicles := s.vehicles.cleared,
    points := s.points.map fun x => { x with counters := coldPointCounters },
    supervisor := coldSupervisor,
    modeRec := { s.modeRec with autonomous := 0, marksTaken := 0, marksRefused := 0 },
    commands := coldCommands }

/-! ### Incidents -/

/-- R95: the number of the next newer record, absent for the newest. -/
def newerThan (n : Nat) : List Incident → Option Nat
  | [] => none
  | r :: rest => if r.number = n then rest.head?.map Incident.number else newerThan n rest

/-- R95: what both parts carry at their end. -/
def State.walkBytes (s : State) (r : Incident) : List Byte :=
  number2 (newerThan r.number s.incidents.records) ++ be8 s.incidents.records.length

/-- R95: HEAD. -/
def State.incidentHead (s : State) (r : Incident) : List Byte :=
  be16 r.number ++ [r.kind.code] ++ r.object.bytes ++ enumOpt Detail.code r.detail ++ r.opened.bytes ++ [r.state.code]
    ++ enumOpt IncOutcome.code r.outcome ++ stampOpt r.closed ++ expiryOpt r.window ++ capturedBytes r.captured
    ++ be8 r.tripCount ++ lastTripBytes r.lastTrip ++ s.walkBytes r

/-- R95: LISTS, with the fields that R95 lists for it, the record's state not among them (DESIGN CHOICE; log 40). -/
def State.incidentLists (s : State) (r : Incident) : List Byte :=
  be16 r.number ++ be8 r.shots.length ++ r.shots.flatMap (fun x => be8 x.1 ++ [x.2.code]) ++ be8 r.vehicles.length
    ++ r.vehicles.flatMap Attributed.bytes ++ flag r.more ++ s.walkBytes r

/-- R95: READ_INCIDENT. -/
def State.readIncident (s : State) (selector : Byte) (number : Nat) (part : Byte) (k : Nat) : Answer :=
  if 2 < selector.toNat ∨ 1 < part.toNat ∨ (selector.toNat = 0 ∧ number = 0) then (.badArgument, [])
  else
    let r := match selector.toNat with
      | 0 => s.record? number
      | 1 => s.incidents.records.head?
      | _ => s.incidents.records.getLast?
    match r with
    | none => (.failed, [])
    | some r => pieceAnswer (if part = 0 then s.incidentHead r else s.incidentLists r) k

/-- R96: CLEAR_INCIDENTS. -/
def State.clearIncidents (s : State) : State :=
  { s with incidents :=
      { s.incidents with records := s.incidents.records.filter fun r => r.state != .closed } }

/-- R96: how many records CLEAR_INCIDENTS removes. -/
def State.closedCount (s : State) : Nat := (s.incidents.records.filter fun r => r.state == .closed).length

/-! ### Table entries -/

/-- R153, R186: READ_ENTRY; the binding table adds the hit and reject counts. -/
def State.readEntry (s : State) (table index : Byte) : Answer :=
  match tableOf table with
  | none => (.badArgument, [])
  | some t =>
    match t.place index with
    | none => (.badArgument, [])
    | some k =>
      let counts := match t with
        | .binding => (s.bindCounts[k]?.map fun c => be16 c.hits ++ be16 c.rejects).getD []
        | _ => []
      (.done, s.tables.entry t k ++ counts)

/-- R150: a binding entry's counts become 0. -/
def State.clearBinding (s : State) (k : Nat) : State :=
  if h : k < 64 then { s with bindCounts := s.bindCounts.set k ⟨0, 0⟩ } else s

/-- R188: the length of an entry that WRITE_ENTRY must carry for a known table; an unknown table is judged by R188. -/
def entryLengthOk (table : Byte) (entry : List Byte) : Bool :=
  match tableOf table with
  | none => true
  | some t => entry.length == t.entryBytes

/-- R150, R161, R188, R189: WRITE_ENTRY. -/
def Ev.writeEntry (e : Ev) (table index : Byte) (entry : List Byte) : Ev × Answer :=
  match tableOf table with
  | none => (e, (.badArgument, []))
  | some t =>
    match t.place index with
    | none => (e, (.badArgument, []))
    | some k =>
      if t.observeOnly && e.s.mode != .observe then (e, (.refusedState, []))
      else if e.s.tables.activeAt t k then (e, (.entryActive, []))
      else match e.s.tables.put t k entry true with
        | none => (e, (.badArgument, []))
        | some tables =>
          let e := e.mod fun s =>
            let s := { s with tables := tables }
            match t with
            | .binding => s.clearBinding k
            | .settings => (s.ratesChanged .field).ratesChanged .control
            | _ => s
          (e, (.done, e.s.tables.entry t k))

/-- R150: the active flag of a binding entry. -/
def State.setBindingActive (s : State) (k : Nat) (on : Bool) : State :=
  if h : k < 64 then
    { s with tables := { s.tables with binding := s.tables.binding.set k { s.tables.binding[k] with active := on } } }
  else s

/-- The active flag of a section entry. -/
def State.setSectionActive (s : State) (i : SecNo) (on : Bool) : State :=
  { s with tables := { s.tables with sections := s.tables.sections.set i { s.tables.sections[i] with active := on } } }

/-- The active flag of a point entry. -/
def State.setPointActive (s : State) (p : PointNo) (on : Bool) : State :=
  { s with tables := { s.tables with points := s.tables.points.set p { s.tables.points[p] with active := on } } }

/-- The active flag of the station entry. -/
def State.setStationActive (s : State) (on : Bool) : State :=
  { s with tables := { s.tables with station := { s.tables.station with active := on } } }

/-- R1, R62: ENTRY_ACTIVE for a section. -/
def Ev.sectionActive (e : Ev) (i : SecNo) (on : Bool) : Ev × Result :=
  if (e.s.secEntry i).active = on then (e, .done)
  else if on then ((e.mod fun s => (s.setSectionActive i true).activateSection i).derive i, .done)
  else if e.s.mayDeactivate i then ((e.mod fun s => s.setSectionActive i false).deactivateSection i, .done)
  else (e, .refusedState)

/-- R118: ENTRY_ACTIVE for a point. -/
def Ev.pointActive (e : Ev) (p : PointNo) (on : Bool) : Ev × Result :=
  if (e.s.pointEntry p).active = on then (e, .done)
  else if on then (e.mod fun s => (s.setPointActive p true).activatePoint p, .done)
  else if (e.s.point p).activity = .throwing then (e, .refusedState)
  else (e.mod fun s => (s.setPointActive p false).dropPoint p, .done)

/-- R188: ENTRY_ACTIVE for the station. -/
def Ev.stationActive (e : Ev) (on : Bool) : Ev × Result :=
  if on || !e.s.tables.station.active || e.s.mayDeactivateStation then (e.mod fun s => s.setStationActive on, .done)
  else (e, .refusedState)

/-- R188: ENTRY_ACTIVE. -/
def Ev.entryActive (e : Ev) (table index value : Byte) : Ev × Result :=
  match tableOf table, yesNoOf value with
  | some t, some on =>
    match t.place index with
    | none => (e, .badArgument)
    | some k =>
      match t with
      | .binding => (e.mod fun s => s.setBindingActive k on, .done)
      | .sections => match k with
        | 0 => e.stationActive on
        | j + 1 => match secOf (j + 1) with
          | some i => e.sectionActive i on
          | none => (e, .badArgument)
      | .points => match pointOf (k + 1) with
        | some p => e.pointActive p on
        | none => (e, .badArgument)
      | .sets | .programs | .settings => (e, .badArgument)
  | _, _ => (e, .badArgument)

end Sys2Proof.Machine
end

