-- ==== Sys2Proof/Machine/Requests.lean ====
section
/-! DEFINITION. The command unit (11.1): authority (R183), tags, results and answers (R184), and each COMMAND and
MG_REQUEST handed to its owner (R185, R186). Each request is one event up to the queuing of its answer. -/

namespace Sys2Proof.Machine

open Sys2Proof

/-! ### Authority and answers -/

/-- R183: a COMMAND is accepted from the control station on the Control line. -/
def State.mayCommand (s : State) (r : Req) : Bool := r.line == .control && r.src == s.settings.control

/-- R183: an MG_REQUEST is accepted from the control station on the Control line, or from the maintenance station on the
Field line. -/
def State.mayManage (s : State) (r : Req) : Bool :=
  s.mayCommand r || (r.line == .field && s.settings.maintenance != 0 && r.src == s.settings.maintenance)

/-- Change the command unit's counters. -/
def State.modCommands (s : State) (f : CommandCounters → CommandCounters) : State := { s with commands := f s.commands }

/-- R183: an answer, from the own station `own`. -/
def answerTelegram (own : Byte) (r : Req) (kind code : Byte) (res : Result) (data : List Byte) : Telegram :=
  { dst := r.src, src := own, kind := kind, body := [r.tag, code, res.code] ++ data }

/-- R183: a request of a station that may not make it. -/
def Ev.notPermitted (e : Ev) (r : Req) (kind code : Byte) : Ev :=
  (e.mod fun s => s.modCommands fun c => { c with notPermitted := inc16 c.notPermitted }).answer r.line
    (answerTelegram e.s.settings.own r kind code .notPermitted [])

/-- R183, R184: a COMMAND; while loading it is answered NOT_READY (R152). -/
def Ev.command (e : Ev) (r : Req) (code : Byte) (f : Ev → Ev × Result) : Ev :=
  let own := e.s.settings.own
  if e.s.loading then e.answer r.line (answerTelegram own r kCommandResult code .notReady [])
  else if e.s.mayCommand r then
    let (e, res) := f (e.mod fun s => s.modCommands fun c => { c with commands := inc16 c.commands })
    e.answer r.line (answerTelegram own r kCommandResult code res [])
  else e.notPermitted r kCommandResult code

/-- R183, R184: an MG_REQUEST; an answer that comes later, or never, is absent. -/
def Ev.request (e : Ev) (r : Req) (code : Byte) (f : Ev → Ev × Option Answer) : Ev :=
  let own := e.s.settings.own
  if e.s.loading then e.answer r.line (answerTelegram own r kMgReply code .notReady [])
  else if e.s.mayManage r then
    let (e, res) := f (e.mod fun s => s.modCommands fun c => { c with requests := inc16 c.requests })
    match res with
    | none => e
    | some a => e.answer r.line (answerTelegram own r kMgReply code a.1 a.2)
  else e.notPermitted r kMgReply code

/-- R184: a malformed request is counted and answered BAD_ARGUMENT. -/
def Ev.malformed (e : Ev) : Ev := e.mod fun s => s.modCommands fun c => { c with malformed := inc16 c.malformed }

/-- A request that reads the state. -/
def Ev.reads (f : State → Answer) (e : Ev) : Ev × Option Answer := (e, some (f e.s))

/-- A result as an answer without data. -/
def plain (x : Ev × Result) : Ev × Option Answer := (x.1, some (x.2, []))

/-- R184: a section argument; outside 1..8 it is answered BAD_ARGUMENT before any check of the owner. -/
def Ev.onSection (n : Byte) (f : Ev → SecNo → Ev × Result) (e : Ev) : Ev × Result :=
  match secOf n.toNat with
  | none => (e, .badArgument)
  | some i => f e i

/-- R184: a point argument. -/
def Ev.onPoint (n : Byte) (f : Ev → PointNo → Ev × Result) (e : Ev) : Ev × Result :=
  match pointOf n.toNat with
  | none => (e, .badArgument)
  | some p => f e p

/-! ### The commands -/

/-- R11: SECTION_CLOSE. -/
def Ev.cmdSectionClose (e : Ev) (r : Req) (n : Byte) : Ev := e.command r 0x01 (Ev.onSection n Ev.sectionClose)

/-- R14: SECTION_OPEN; an unknown kind is a code out of range (log 17). -/
def Ev.cmdSectionOpen (e : Ev) (r : Req) (n kind : Byte) : Ev :=
  e.command r 0x02 (Ev.onSection n fun e i => match yesNoOf kind with
    | none => (e, .badArgument)
    | some trip => e.sectionOpen i trip)

/-- R24: SECTION_RESET. -/
def Ev.cmdSectionReset (e : Ev) (r : Req) (n : Byte) : Ev := e.command r 0x03 (Ev.onSection n Ev.sectionReset)

/-- R25: SECTION_ISOLATE. -/
def Ev.cmdSectionIsolate (e : Ev) (r : Req) (n force : Byte) : Ev :=
  e.command r 0x04 (Ev.onSection n fun e i => match yesNoOf force with
    | none => (e, .badArgument)
    | some f => e.sectionIsolate i f)

/-- R25: SECTION_RELEASE. -/
def Ev.cmdSectionRelease (e : Ev) (r : Req) (n : Byte) : Ev := e.command r 0x05 (Ev.onSection n Ev.sectionRelease)

/-- R22: STATION_CLOSE. -/
def Ev.cmdStationClose (e : Ev) (r : Req) : Ev := e.command r 0x06 Ev.stationClose

/-- R22: STATION_OPEN. -/
def Ev.cmdStationOpen (e : Ev) (r : Req) (kind : Byte) : Ev :=
  e.command r 0x07 fun e => match yesNoOf kind with
    | none => (e, .badArgument)
    | some trip => e.stationOpen trip

/-- R23: STATION_RESET. -/
def Ev.cmdStationReset (e : Ev) (r : Req) : Ev := e.command r 0x08 Ev.stationReset

/-- R133: POINT_SET. -/
def Ev.cmdPointSet (e : Ev) (r : Req) (n leg : Byte) : Ev :=
  e.command r 0x09 (Ev.onPoint n fun e p => match legOf leg with
    | none => (e, .badArgument)
    | some l => e.pointSet p l)

/-- R134: POINT_LOCK. -/
def Ev.cmdPointLock (e : Ev) (r : Req) (n leg : Byte) : Ev :=
  e.command r 0x0A (Ev.onPoint n fun e p => match legOf leg with
    | none => (e, .badArgument)
    | some l => e.pointLock p l)

/-- R134: POINT_UNLOCK. -/
def Ev.cmdPointUnlock (e : Ev) (r : Req) (n : Byte) : Ev := e.command r 0x0B (Ev.onPoint n Ev.pointUnlock)

/-- R135: POINT_CLEAR. -/
def Ev.cmdPointClear (e : Ev) (r : Req) (n : Byte) : Ev := e.command r 0x0C (Ev.onPoint n Ev.pointClear)

/-- R114: VEHICLE_FORGET. -/
def Ev.cmdVehicleForget (e : Ev) (r : Req) (v : BitVec 16) : Ev := e.command r 0x0D fun e => e.vehicleForget v.toNat

/-! ### The management requests -/

/-- R187: READ_STATE. -/
def Ev.reqReadState (e : Ev) (r : Req) (kind : Byte) (number : BitVec 16) (part : Byte) : Ev :=
  e.request r 0x01 (Ev.reads fun s => s.readState kind number.toNat part.toNat)

/-- R186: READ_ENTRY. -/
def Ev.reqReadEntry (e : Ev) (r : Req) (table index : Byte) : Ev :=
  e.request r 0x02 (Ev.reads fun s => s.readEntry table index)

/-- R188: WRITE_ENTRY; an entry of the wrong length is malformed (R184). -/
def Ev.reqWriteEntry (e : Ev) (r : Req) (table index : Byte) (entry : List Byte) : Ev :=
  e.request r 0x03 fun e =>
    if entryLengthOk table entry then
      let (e, a) := e.writeEntry table index entry
      (e, some a)
    else (e.malformed, some (.badArgument, []))

/-- R188: ENTRY_ACTIVE. -/
def Ev.reqEntryActive (e : Ev) (r : Req) (table index value : Byte) : Ev :=
  e.request r 0x04 fun e => plain (e.entryActive table index value)

/-- R172: SET_MODE; the reply carries the mode as it stands after the request (log 31). -/
def Ev.reqSetMode (e : Ev) (r : Req) (mode : Byte) : Ev :=
  e.request r 0x05 fun e =>
    let (e, res) := e.setMode mode
    (e, some (res, [e.s.mode.code]))

/-- R187: READ_COUNTERS. -/
def Ev.reqReadCounters (e : Ev) (r : Req) (group : Byte) : Ev := e.request r 0x06 (Ev.reads fun s => s.readCounters group)

/-- R187: CLEAR_COUNTERS. -/
def Ev.reqClearCounters (e : Ev) (r : Req) : Ev :=
  e.request r 0x07 fun e => (e.mod State.clearCounters, some (.done, []))

/-- R95: READ_INCIDENT. -/
def Ev.reqReadIncident (e : Ev) (r : Req) (selector : Byte) (number : BitVec 16) (part k : Byte) : Ev :=
  e.request r 0x08 (Ev.reads fun s => s.readIncident selector number.toNat part k.toNat)

/-- R96: CLEAR_INCIDENTS; answered with the number of records removed. -/
def Ev.reqClearIncidents (e : Ev) (r : Req) : Ev :=
  e.request r 0x09 fun e => (e.mod State.clearIncidents, some (.done, be8 e.s.closedCount))

/-- A store request's result, or the answer that comes when the operation ends. -/
def later (x : Ev × Option Result) : Ev × Option Answer := (x.1, x.2.map fun r => (r, []))

/-- R193: STORE_READ. -/
def Ev.reqStoreRead (e : Ev) (r : Req) (address : BitVec 16) (count : Byte) : Ev :=
  e.request r 0x0A fun e => later (e.storeRead r 0x0A address.toNat count.toNat)

/-- R193: STORE_WRITE. -/
def Ev.reqStoreWrite (e : Ev) (r : Req) (address : BitVec 16) (bytes : List Byte) : Ev :=
  e.request r 0x0B fun e => later (e.storeWrite r 0x0B address.toNat bytes)

/-- R194: STORE_SAVE. -/
def Ev.reqStoreSave (e : Ev) (r : Req) : Ev := e.request r 0x0C fun e => later (e.storeSave r 0x0C)

/-- R195: STORE_RELOAD. -/
def Ev.reqStoreReload (e : Ev) (r : Req) : Ev := e.request r 0x0D fun e => later (e.storeReload r 0x0D)

/-- R179: RESTART of kind COLD; the restart empties every queue and sends no reply. -/
def Ev.reqRestartCold (e : Ev) (r : Req) : Ev :=
  e.request r 0x0E fun e =>
    if e.s.store.op.isSome then (e, some (.busy, []))
    else (Ev.start (e.s.coldStart .coldRequest (some r.tag)), none)

/-- R180: RESTART of kind WARM. -/
def Ev.reqRestartWarm (e : Ev) (r : Req) : Ev :=
  e.request r 0x0E fun e =>
    if e.s.warmRefused then (e, some (.refusedState, [])) else (e.warmRestart r.tag, none)

/-! ### Requests as telegrams bring them -/

/-- R184: a COMMAND with no code byte, an unknown code or arguments of the wrong length. -/
def Ev.badCommand (e : Ev) (r : Req) (code : Byte) : Ev := e.command r code fun e => (e.malformed, .badArgument)

/-- R184: an MG_REQUEST with no code byte, an unknown code or arguments of the wrong length. -/
def Ev.badRequest (e : Ev) (r : Req) (code : Byte) : Ev :=
  e.request r code fun e => (e.malformed, some (.badArgument, []))

/-- R185: a COMMAND by its code and arguments. -/
def Ev.commandBody (e : Ev) (r : Req) (code : Byte) (args : List Byte) : Ev :=
  match code.toNat, args with
  | 0x01, [n] => e.cmdSectionClose r n
  | 0x02, [n, k] => e.cmdSectionOpen r n k
  | 0x03, [n] => e.cmdSectionReset r n
  | 0x04, [n, f] => e.cmdSectionIsolate r n f
  | 0x05, [n] => e.cmdSectionRelease r n
  | 0x06, [] => e.cmdStationClose r
  | 0x07, [k] => e.cmdStationOpen r k
  | 0x08, [] => e.cmdStationReset r
  | 0x09, [n, l] => e.cmdPointSet r n l
  | 0x0A, [n, l] => e.cmdPointLock r n l
  | 0x0B, [n] => e.cmdPointUnlock r n
  | 0x0C, [n] => e.cmdPointClear r n
  | 0x0D, [h, l] => e.cmdVehicleForget r (h ++ l)
  | _, _ => e.badCommand r code

/-- R186, the store requests and RESTART: an MG_REQUEST by its code and arguments. -/
def Ev.storeBody (e : Ev) (r : Req) (code : Byte) (args : List Byte) : Ev :=
  match code.toNat, args with
  | 0x0A, [h, l, n] => e.reqStoreRead r (h ++ l) n
  | 0x0B, h :: l :: n :: bytes =>
    if bytes.length = n.toNat then e.reqStoreWrite r (h ++ l) bytes else e.badRequest r code
  | 0x0C, [] => e.reqStoreSave r
  | 0x0D, [] => e.reqStoreReload r
  | 0x0E, [k] => match k.toNat with
    | 0 => e.reqRestartCold r
    | 1 => e.reqRestartWarm r
    | _ => e.request r code fun e => (e, some (.badArgument, []))
  | _, _ => e.badRequest r code

/-- R186: an MG_REQUEST by its code and arguments. -/
def Ev.requestBody (e : Ev) (r : Req) (code : Byte) (args : List Byte) : Ev :=
  match code.toNat, args with
  | 0x01, [k, h, l, p] => e.reqReadState r k (h ++ l) p
  | 0x02, [t, i] => e.reqReadEntry r t i
  | 0x03, t :: i :: entry => e.reqWriteEntry r t i entry
  | 0x04, [t, i, v] => e.reqEntryActive r t i v
  | 0x05, [m] => e.reqSetMode r m
  | 0x06, [g] => e.reqReadCounters r g
  | 0x07, [] => e.reqClearCounters r
  | 0x08, [s, h, l, p, k] => e.reqReadIncident r s (h ++ l) p k
  | 0x09, [] => e.reqClearIncidents r
  | _, _ => e.storeBody r code args

/-- R184: a COMMAND telegram's body: tag, code, arguments. -/
def Ev.takeCommand (e : Ev) (l : Line) (src : Byte) (body : List Byte) : Ev :=
  let r : Req := ⟨l, src, body.headD 0⟩
  match body.drop 1 with
  | [] => e.badCommand r Config.noCode
  | code :: args => e.commandBody r code args

/-- R184: an MG_REQUEST telegram's body: tag, code, arguments. -/
def Ev.takeRequest (e : Ev) (l : Line) (src : Byte) (body : List Byte) : Ev :=
  let r : Req := ⟨l, src, body.headD 0⟩
  match body.drop 1 with
  | [] => e.badRequest r Config.noCode
  | code :: args => e.requestBody r code args

end Sys2Proof.Machine
end

