-- ==== Sys2Proof/Machine/Traffic.lean ====
section
/-! DEFINITION. The traffic path (08): deliveries to object roles (R145, R146), classification and dispositions (R142,
R143), supervised orders (R147 to R149), own-address dispatch (R139), pass-through (R152) and the taking of a telegram
(R138). -/

namespace Sys2Proof.Machine

open Sys2Proof

/-! ### Deliveries -/

/-- R3: a BREAKER_STATE delivered to a breaker role. A malformed one for an inactive section is not counted, since R27
holds that section's record at its cold-restart values (DESIGN CHOICE; log 29). -/
def Ev.breakerState (e : Ev) (obj : BreakerObj) (body : List Byte) : Ev :=
  match obj, breakerReportOf body with
  | .station, some r => e.stationReport r
  | .station, none => e
  | .sec i, some r => e.breakerReport i r
  | .sec i, none =>
    if (e.s.secEntry i).active then e.mod fun s => s.modFeed i fun f => { f with malformed := inc16 f.malformed } else e

/-- R73, R145: a LINE_TEST_RESULT delivered to a breaker role; the station takes it without effect, and a body that is
not a resistance has none (log 34). -/
def Ev.takeLineTest (e : Ev) (obj : BreakerObj) (body : List Byte) : Ev :=
  match obj, lineTestOf body with
  | .sec i, some r => if (e.s.secEntry i).active then e.lineTestResult i r else e
  | _, _ => e

/-- R118, R119, R121: a POINT_POSITION delivered to a MOTOR role. -/
def Ev.takePointPosition (e : Ev) (p : PointNo) (body : List Byte) : Ev :=
  if !(e.s.pointEntry p).active then
    e.mod fun s => s.modSupervisor fun c => { c with inactiveObjects := inc16 c.inactiveObjects }
  else match pointPositionOf body with
    | none => e.mod fun s => s.modSupervisor fun c => { c with malformed := inc16 c.malformed }
    | some r =>
      let e := e.mod fun s => s.modPoint p fun x => x.count fun c => { c with reports := inc16 c.reports }
      match r with
      | none => e.mod fun s => s.pointFault p
      | some b => e.bladeReport p b

/-- R122: a passage taken. -/
def Ev.passage (e : Ev) (p : PointNo) (role : ContactRole) (vehicle : Nat) : Ev :=
  let e := e.mod fun s => s.modPoint p fun x => x.count fun c => { c with passages := inc16 c.passages }
  match role with
  | .approach => e.mod fun s => s.modPoint p Point.approach
  | .clear => e.clearPassage p vehicle

/-- R118, R122: a CONTACT delivered to an APPROACH or CLEAR role. -/
def Ev.takeContact (e : Ev) (p : PointNo) (role : ContactRole) (body : List Byte) : Ev :=
  if !(e.s.pointEntry p).active then
    e.mod fun s => s.modSupervisor fun c => { c with inactiveObjects := inc16 c.inactiveObjects }
  else match body with
    | [b, h, l] =>
      if b ≠ ContactRole.code role then
        e.mod fun s => s.modSupervisor fun c => { c with roleMismatch := inc16 c.roleMismatch }
      else if 9999 < read16 h l then e.mod fun s => s.modSupervisor fun c => { c with malformed := inc16 c.malformed }
      else e.passage p role (read16 h l)
    | _ => e.mod fun s => s.modSupervisor fun c => { c with malformed := inc16 c.malformed }

/-- R124: a ROUTE_REQUEST delivered to the VEHICLE GATEWAY role. -/
def Ev.takeRouteRequest (e : Ev) (body : List Byte) : Ev :=
  match routeRequestOf body with
  | none => e.mod fun s => s.modSupervisor fun c => { c with malformed := inc16 c.malformed }
  | some (v, p, l) => e.routeRequest v p l

/-- R145, R146: a delivery to a role; none where the role does not accept the kind. -/
def Ev.deliver (e : Ev) (role : Role) (t : Telegram) : Option Ev :=
  match role with
  | .source r i => if t.kind = kSample then some (e.sampleTelegram i r (samplesOf t.body)) else none
  | .breaker obj =>
    if t.kind = kBreakerState then some (e.breakerState obj t.body)
    else if t.kind = kLineTestResult then some (e.takeLineTest obj t.body)
    else none
  | .motor p => if t.kind = kPointPosition then some (e.takePointPosition p t.body) else none
  | .contact r p => if t.kind = kContact then some (e.takeContact p r t.body) else none
  | .gateway =>
    if t.kind = kVehicleStatus then some (e.vehicleStatus (vehicleStatusOf t.body))
    else if t.kind = kRouteRequest then some (e.takeRouteRequest t.body)
    else none

/-! ### Dispositions -/

/-- R141: a binding entry's counts. -/
def State.modBind (s : State) (k : Fin 64) (f : BindCount → BindCount) : State :=
  { s with bindCounts := s.bindCounts.set k (f s.bindCounts[k]) }

/-- R146: a delivery by an entry, or a reject. -/
def Ev.deliverBy (e : Ev) (k : Fin 64) (t : Telegram) : Ev :=
  match (e.s.tables.binding[k].role).bind fun r => e.deliver r t with
  | some e' => e'
  | none => e.mod fun s => s.modBind k fun c => { c with rejects := inc16 c.rejects }

/-- R144: the telegram an entry forwards. -/
def Binding.rewritten (b : Binding) (t : Telegram) : Telegram :=
  match b.rewrite with
  | none => t
  | some d => { t with dst := d }

/-- R138, R168: a telegram of a line is counted forwarded. -/
def State.countForwarded (s : State) (l : Line) : State :=
  s.modCounters l fun c => { c with forwarded := inc32 c.forwarded }

/-- R138, R168: a telegram of a line is counted consumed. -/
def State.countConsumed (s : State) (l : Line) : State := s.modCounters l fun c => { c with consumed := inc32 c.consumed }

/-- R138, R168: a telegram of a line is counted discarded. -/
def State.countDiscarded (s : State) (l : Line) : State :=
  s.modCounters l fun c => { c with discarded := inc32 c.discarded }

/-- R143: a telegram of a line is forwarded and counted. -/
def State.forward (s : State) (l : Line) (t : Telegram) : State := (s.pushNormal (Line.other l) t).countForwarded l

/-! ### Supervised orders -/

/-- R147: the equivalent command of a supervised order. -/
inductive Equivalent where
  | sectionClose (i : SecNo)
  | sectionOpen (i : SecNo) (trip : Bool)
  | stationClose
  | stationOpen (trip : Bool)
  | pointSet (p : PointNo) (leg : Option Leg)
  deriving DecidableEq, Repr

/-- R147: the equivalent command of a kind for a role; none where the kind does not belong to the role. The body of a
POINT_THROW names a leg only where it is one byte (DEDUCED; log 50). -/
def equivalentOf (role : Role) (t : Telegram) : Option Equivalent :=
  match role with
  | .breaker (.sec i) =>
    if t.kind = kBreakerClose then some (.sectionClose i)
    else if t.kind = kBreakerOpen then some (.sectionOpen i false)
    else if t.kind = kBreakerTrip then some (.sectionOpen i true)
    else none
  | .breaker .station =>
    if t.kind = kBreakerClose then some .stationClose
    else if t.kind = kBreakerOpen then some (.stationOpen false)
    else if t.kind = kBreakerTrip then some (.stationOpen true)
    else none
  | .motor p =>
    if t.kind = kPointThrow then
      some (.pointSet p (match t.body with | [b] => legOf b | _ => none))
    else none
  | .source _ _ | .contact _ _ | .gateway => none

/-- R147: a supervised order of an entry. -/
def supervisedBy (b : Binding) (l : Line) (t : Telegram) : Option Equivalent :=
  if b.disposition = .supervise ∧ l = .control then b.role.bind fun r => equivalentOf r t else none

/-- R185: the command code of the equivalent command. -/
def Equivalent.code : Equivalent → Byte
  | .sectionClose _ => 0x01
  | .sectionOpen _ _ => 0x02
  | .stationClose => 0x06
  | .stationOpen _ => 0x07
  | .pointSet _ _ => 0x09

/-- R149: object type and number of the advisory, as chapter 12 encodes them. -/
def Equivalent.object : Equivalent → List Byte
  | .sectionClose i => IncObject.bytes (.sec i)
  | .sectionOpen i _ => IncObject.bytes (.sec i)
  | .stationClose => IncObject.bytes .station
  | .stationOpen _ => IncObject.bytes .station
  | .pointSet p _ => IncObject.bytes (.point p)

/-- R147: a breaker order with a body, or a POINT_THROW without a leg, is BAD_ARGUMENT. -/
def Equivalent.bad (q : Equivalent) (t : Telegram) : Bool :=
  match q with
  | .pointSet _ leg => leg.isNone
  | _ => !t.body.isEmpty

/-- R148: the equivalent command is carried out by its owner. -/
def Ev.carryOut (e : Ev) : Equivalent → Ev × Result
  | .sectionClose i => e.sectionClose i
  | .sectionOpen i trip => e.sectionOpen i trip
  | .stationClose => e.stationClose
  | .stationOpen trip => e.stationOpen trip
  | .pointSet p (some l) => e.pointSet p l
  | .pointSet _ none => (e, .badArgument)

/-- R149: the owner judges the equivalent command without the mode check. -/
def State.judge (s : State) : Equivalent → Result
  | .sectionClose i => s.judgeClose i false
  | .sectionOpen i _ => s.judgeOpen i false
  | .stationClose => s.judgeStationClose false
  | .stationOpen _ => s.judgeStationOpen false
  | .pointSet p (some l) => s.judgePointSet p l false
  | .pointSet _ none => .badArgument

/-- R149: the refusals that queue an advisory. -/
def Result.advised : Result → Bool
  | .refusedState | .refusedInterlock | .badArgument => true
  | _ => false

/-- R148: a supervised order in ACTIVE or AUTONOMOUS is converted and answered with tag 0; the command unit's counters do
not move (DESIGN CHOICE; log 51). -/
def Ev.convert (e : Ev) (q : Equivalent) (t : Telegram) : Ev :=
  let (e, r) := if q.bad t then (e, .badArgument) else e.carryOut q
  (e.mod fun s => s.countConsumed .control).answer .control
    (e.s.telegram t.src kCommandResult [0, q.code, r.code])

/-- R149: a supervised order in OBSERVE is forwarded, with an advisory where its command would be refused. -/
def Ev.advise (e : Ev) (k : Fin 64) (q : Equivalent) (t : Telegram) : Ev :=
  let r := if q.bad t then .badArgument else e.s.judge q
  let e := e.mod fun s => s.forward .control (s.tables.binding[k].rewritten t)
  if r.advised then
    e.answer .control (e.s.report kPathAdvisory
      (be8 k.val ++ [t.kind, t.src, t.dst] ++ q.object ++ [q.code, r.code]))
  else e

/-- R147 to R149: a telegram of the Control line decided by a SUPERVISE entry; what is no supervised order is handled as
CONSUME. -/
def Ev.supervise (e : Ev) (k : Fin 64) (l : Line) (t : Telegram) : Ev :=
  match supervisedBy e.s.tables.binding[k] l t with
  | some q => if e.s.mode = .observe then e.advise k q t else e.convert q t
  | none => (e.deliverBy k t).mod fun s => s.countConsumed l

/-! ### Classification -/

/-- R142: an entry matches a telegram of a line. -/
def Binding.matches (b : Binding) (l : Line) (t : Telegram) : Bool :=
  b.active && (!b.line.1 || b.line.2 == l) && (!b.src.1 || b.src.2 == t.src) && (!b.dst.1 || b.dst.2 == t.dst)
    && (!b.kind.1 || b.kind.2 == t.kind) && (!b.key.1 || b.key.2 == Telegram.key t)

/-- R142: the first active entry that matches. -/
def State.deciding (s : State) (l : Line) (t : Telegram) : Option (Fin 64) :=
  (List.finRange 64).find? fun k => s.tables.binding[k].matches l t

/-- R143: the disposition of the deciding entry. -/
def Ev.dispose (e : Ev) (k : Fin 64) (l : Line) (t : Telegram) : Ev :=
  let b := e.s.tables.binding[k]
  match b.disposition with
  | .forward => e.mod fun s => s.forward l (b.rewritten t)
  | .consume => (e.deliverBy k t).mod fun s => s.countConsumed l
  | .copy => (e.mod fun s => s.forward l (b.rewritten t)).deliverBy k t
  | .supervise => e.supervise k l t
  | .discard => e.mod fun s => s.countDiscarded l

/-- R142: a telegram is classified. -/
def Ev.classify (e : Ev) (l : Line) (t : Telegram) : Ev :=
  match e.s.deciding l t with
  | some k => (e.mod fun s => s.modBind k fun c => { c with hits := inc16 c.hits }).dispose k l t
  | none =>
    if e.s.settings.forwardDefault then e.mod fun s => s.forward l t else e.mod fun s => s.countDiscarded l

/-! ### Taking a telegram -/

/-- R139: a telegram for the own station; its arrival line's counter increments before a restart may clear it. -/
def Ev.ownAddress (e : Ev) (l : Line) (t : Telegram) : Ev :=
  if t.kind = kCommand then (e.mod fun s => s.countConsumed l).takeCommand l t.src t.body
  else if t.kind = kMgRequest then (e.mod fun s => s.countConsumed l).takeRequest l t.src t.body
  else if t.kind = kTimeMark then e.mod fun s => (s.countConsumed l).timeMark l t.src (dayTimeOf t.body)
  else e.mod fun s => s.countDiscarded l

/-- R152: a request while loading. -/
def Ev.notReady (e : Ev) (l : Line) (t : Telegram) (kind : Byte) : Ev :=
  (e.mod fun s => s.countConsumed l).answer l
    (answerTelegram e.s.settings.own ⟨l, t.src, t.body.headD 0⟩ kind (t.body.getD 1 Config.noCode) .notReady [])

/-- R152: pass-through while loading. -/
def Ev.passThrough (e : Ev) (l : Line) (t : Telegram) : Ev :=
  if t.dst = e.s.settings.own then
    if t.kind = kCommand then e.notReady l t kCommandResult
    else if t.kind = kMgRequest then e.notReady l t kMgReply
    else e.mod fun s => s.countDiscarded l
  else e.mod fun s => s.forward l t

/-- R140: a TIME_MARK broadcast of the control station on the Control line. -/
def State.broadcastMark (s : State) (l : Line) (t : Telegram) : Bool :=
  t.kind == kTimeMark && t.dst == 255 && l == .control && t.src == s.settings.control

/-- R138: a telegram is handled. -/
def Ev.handle (e : Ev) (l : Line) (t : Telegram) : Ev :=
  if e.s.loading then e.passThrough l t
  else
    let e := if l = .control ∧ t.src = e.s.settings.control then e.controlHeard else e
    if t.dst = e.s.settings.own then e.ownAddress l t
    else if e.s.broadcastMark l t then
      (e.mod fun s => s.timeMark l t.src (dayTimeOf t.body)).classify l t
    else e.classify l t

/-- R138: the traffic path takes the oldest telegram of a line's receive buffer. -/
def State.takeTelegram (s : State) (l : Line) : State :=
  match (s.port l).buffer with
  | [] => s
  | r :: rest => (((Ev.start s).mod fun s => s.modPort l fun p => { p with buffer := rest }).handle l r.tg).finish

end Sys2Proof.Machine
end

