-- ==== Sys2Proof/Machine/PortExec.lean ====
section
/-! DEFINITION. The meanings of the port events and of TAKE_TELEGRAM. While the part is held in reset no command but those
of the supply and the reset line has an effect (log 24). -/

namespace Sys2Proof.Machine

open Sys2Proof

/-- What every meaning answers with: the host's outcome over the model's own types. -/
abbrev Out := Host.Outcome State Fault Refusal

/-- A meaning that acts on the state while the part is not held in reset. -/
def State.running (s : State) (f : State → State) : Out := .next (if s.held then s else f s)

/-- A meaning that is one event while the part is not held in reset. -/
def State.event (s : State) (f : Ev → Ev) : Out := s.running fun s => (f (Ev.start s)).finish

/-- R152: a delivery by the traffic path; none is made while loading. -/
def State.delivery (s : State) (f : Ev → Ev) : Out :=
  s.running fun s => if s.loading then s else (f (Ev.start s)).finish

/-- R162: TELEGRAM_RECEIVED. -/
def execTelegramReceived (l : Line) (frame : List Byte) (s : State) : Out := s.running fun s => s.frameArrives l frame

/-- R156: LINK_OFFER: the whole of a valid offer arrives. -/
def execLinkOffer (l : Line) (dst src : Byte) (body : List Byte) (s : State) : Out :=
  s.running fun s => s.frameArrives l (Telegram.frame ⟨dst, src, kLinkOffer, body⟩)

/-- R162, R163: IDLE_GAP. -/
def execIdleGap (l : Line) (byteTimes : Nat) (s : State) : Out := s.running fun s => s.idleGap l byteTimes

/-- R163: BABBLE_CUTOFF. -/
def execBabbleCutoff (l : Line) (s : State) : Out := s.running fun s => s.babbleCutoff l

/-- R167: TRANSMIT_TELEGRAM. -/
def execTransmitTelegram (l : Line) (s : State) : Out := s.running fun s => s.transmitTelegram l

/-- R158: ACK_OFFER_END. -/
def execAckOfferEnd (l : Line) (s : State) : Out := s.running fun s => s.ackOfferEnd l

/-- R155: OFFER_EXPIRY. -/
def execOfferExpiry (l : Line) (s : State) : Out := s.running fun s => s.offerExpiry l

/-- R157: PARTNER_EXPIRY. -/
def execPartnerExpiry (l : Line) (s : State) : Out := s.running fun s => s.partnerExpiry l

/-- R159: QUIET_EXPIRY. -/
def execQuietExpiry (l : Line) (s : State) : Out := s.running fun s => s.quietExpiry l

/-- R138: TAKE_TELEGRAM. -/
def execTakeTelegram (l : Line) (s : State) : Out := s.running fun s => s.takeTelegram l

/-- R162: BYTE_ARRIVES. -/
def execByteArrives (l : Line) (b : Byte) (s : State) : Out := s.running fun s => s.byteArrives l b

/-- R155: TRANSMITTER_FREE. -/
def execTransmitterFree (l : Line) (s : State) : Out := s.running fun s => s.transmitterFree l

end Sys2Proof.Machine
end

