-- ==== Sys2Proof/Machine/DeliveryExec.lean ====
section
/-! DEFINITION. The meanings of the deliveries (R145), of TIME_MARK and of SUPERVISED_ORDER: the part of TAKE_TELEGRAM's
event after the telegram has been handed over (log 1). -/

namespace Sys2Proof.Machine

open Sys2Proof

/-- R28: SAMPLE. -/
def execSample (i : SecNo) (r : SourceRole) (body : List Byte) (s : State) : Out :=
  s.delivery fun e => e.sampleTelegram i r (samplesOf body)

/-- R3: BREAKER_STATE. -/
def execBreakerState (obj : BreakerObj) (body : List Byte) (s : State) : Out :=
  s.delivery fun e => e.breakerState obj body

/-- R73: LINE_TEST_RESULT. -/
def execLineTestResult (obj : BreakerObj) (body : List Byte) (s : State) : Out :=
  s.delivery fun e => e.takeLineTest obj body

/-- R119: POINT_POSITION. -/
def execPointPosition (p : PointNo) (body : List Byte) (s : State) : Out :=
  s.delivery fun e => e.takePointPosition p body

/-- R122: CONTACT. -/
def execContact (p : PointNo) (r : ContactRole) (body : List Byte) (s : State) : Out :=
  s.delivery fun e => e.takeContact p r body

/-- R100: VEHICLE_STATUS. -/
def execVehicleStatus (body : List Byte) (s : State) : Out :=
  s.delivery fun e => e.vehicleStatus (vehicleStatusOf body)

/-- R124: ROUTE_REQUEST. -/
def execRouteRequest (body : List Byte) (s : State) : Out := s.delivery fun e => e.takeRouteRequest body

/-- R177: TIME_MARK. -/
def execTimeMark (l : Line) (src : Byte) (body : List Byte) (s : State) : Out :=
  s.delivery fun e => e.mod fun s => s.timeMark l src (dayTimeOf body)

/-- R147, R148, R149: SUPERVISED_ORDER: a telegram of the Control line that the entry decides and supervises; any other
changes nothing (log 3). -/
def execSupervisedOrder (k : Fin 64) (t : Telegram) (s : State) : Out :=
  s.delivery fun e =>
    if e.s.deciding .control t = some k ∧ (supervisedBy e.s.tables.binding[k] .control t).isSome = true then
      e.supervise k .control t
    else e

end Sys2Proof.Machine
end

