-- ==== Sys2Proof/Machine/CommandExec.lean ====
section
/-! DEFINITION. The meanings of the thirteen operational commands (R185): authority, the owner's rule, and the
COMMAND_RESULT. -/

namespace Sys2Proof.Machine

open Sys2Proof

/-- R11: SECTION_CLOSE. -/
def execSectionClose (r : Req) (n : Byte) (s : State) : Out := s.event fun e => e.cmdSectionClose r n

/-- R14: SECTION_OPEN. -/
def execSectionOpen (r : Req) (n kind : Byte) (s : State) : Out := s.event fun e => e.cmdSectionOpen r n kind

/-- R24: SECTION_RESET. -/
def execSectionReset (r : Req) (n : Byte) (s : State) : Out := s.event fun e => e.cmdSectionReset r n

/-- R25: SECTION_ISOLATE. -/
def execSectionIsolate (r : Req) (n force : Byte) (s : State) : Out := s.event fun e => e.cmdSectionIsolate r n force

/-- R25: SECTION_RELEASE. -/
def execSectionRelease (r : Req) (n : Byte) (s : State) : Out := s.event fun e => e.cmdSectionRelease r n

/-- R22: STATION_CLOSE. -/
def execStationClose (r : Req) (s : State) : Out := s.event fun e => e.cmdStationClose r

/-- R22: STATION_OPEN. -/
def execStationOpen (r : Req) (kind : Byte) (s : State) : Out := s.event fun e => e.cmdStationOpen r kind

/-- R23: STATION_RESET. -/
def execStationReset (r : Req) (s : State) : Out := s.event fun e => e.cmdStationReset r

/-- R133: POINT_SET. -/
def execPointSet (r : Req) (p leg : Byte) (s : State) : Out := s.event fun e => e.cmdPointSet r p leg

/-- R134: POINT_LOCK. -/
def execPointLock (r : Req) (p leg : Byte) (s : State) : Out := s.event fun e => e.cmdPointLock r p leg

/-- R134: POINT_UNLOCK. -/
def execPointUnlock (r : Req) (p : Byte) (s : State) : Out := s.event fun e => e.cmdPointUnlock r p

/-- R135: POINT_CLEAR. -/
def execPointClear (r : Req) (p : Byte) (s : State) : Out := s.event fun e => e.cmdPointClear r p

/-- R114: VEHICLE_FORGET. -/
def execVehicleForget (r : Req) (v : BitVec 16) (s : State) : Out := s.event fun e => e.cmdVehicleForget r v

end Sys2Proof.Machine
end

