-- ==== Sys2Proof/Machine/ManagementExec.lean ====
section
/-! DEFINITION. The meanings of the management requests (R186): authority, the owner's rule, and the MG_REPLY. -/

namespace Sys2Proof.Machine

open Sys2Proof

/-- R187: READ_STATE. -/
def execReadState (r : Req) (kind : Byte) (number : BitVec 16) (part : Byte) (s : State) : Out :=
  s.event fun e => e.reqReadState r kind number part

/-- R186: READ_ENTRY. -/
def execReadEntry (r : Req) (table index : Byte) (s : State) : Out := s.event fun e => e.reqReadEntry r table index

/-- R188: WRITE_ENTRY. -/
def execWriteEntry (r : Req) (table index : Byte) (entry : List Byte) (s : State) : Out :=
  s.event fun e => e.reqWriteEntry r table index entry

/-- R188: ENTRY_ACTIVE. -/
def execEntryActive (r : Req) (table index value : Byte) (s : State) : Out :=
  s.event fun e => e.reqEntryActive r table index value

/-- R172: SET_MODE. -/
def execSetMode (r : Req) (mode : Byte) (s : State) : Out := s.event fun e => e.reqSetMode r mode

/-- R187: READ_COUNTERS. -/
def execReadCounters (r : Req) (group : Byte) (s : State) : Out := s.event fun e => e.reqReadCounters r group

/-- R187: CLEAR_COUNTERS. -/
def execClearCounters (r : Req) (s : State) : Out := s.event fun e => e.reqClearCounters r

/-- R95: READ_INCIDENT. -/
def execReadIncident (r : Req) (selector : Byte) (number : BitVec 16) (part k : Byte) (s : State) : Out :=
  s.event fun e => e.reqReadIncident r selector number part k

/-- R96: CLEAR_INCIDENTS. -/
def execClearIncidents (r : Req) (s : State) : Out := s.event fun e => e.reqClearIncidents r

/-- R193: STORE_READ. -/
def execStoreRead (r : Req) (address : BitVec 16) (count : Byte) (s : State) : Out :=
  s.event fun e => e.reqStoreRead r address count

/-- R193: STORE_WRITE. -/
def execStoreWrite (r : Req) (address : BitVec 16) (bytes : List Byte) (s : State) : Out :=
  s.event fun e => e.reqStoreWrite r address bytes

/-- R194: STORE_SAVE. -/
def execStoreSave (r : Req) (s : State) : Out := s.event fun e => e.reqStoreSave r

/-- R195: STORE_RELOAD. -/
def execStoreReload (r : Req) (s : State) : Out := s.event fun e => e.reqStoreReload r

/-- R179: RESTART of kind COLD. -/
def execRestartCold (r : Req) (s : State) : Out := s.event fun e => e.reqRestartCold r

/-- R180: RESTART of kind WARM. -/
def execRestartWarm (r : Req) (s : State) : Out := s.event fun e => e.reqRestartWarm r

end Sys2Proof.Machine
end

