-- ==== Sys2Proof/Machine/ExpiryExec.lean ====
section
/-! DEFINITION. The meanings of the expiries, of the memory's answer, and of the supply and the reset line. An expiry
command acts where its expiry is running and due (log 2). -/

namespace Sys2Proof.Machine

open Sys2Proof

/-! ### Expiries of sequences, incidents and points -/

/-- R68: the dead-time expiry: gate 1 holds. -/
def Ev.deadTimeExpiry (e : Ev) (i : SecNo) : Ev :=
  if dueNow e.s.partTime (e.s.sec i).rcl.dead then
    (e.mod fun s => s.modRcl i fun r => { r with dead := none }).reevaluate i .deadTime
  else e

/-- R71: the hold expiry. -/
def Ev.holdExpiry (e : Ev) (i : SecNo) : Ev :=
  if dueNow e.s.partTime (e.s.sec i).rcl.hold then
    let e := e.mod fun s => s.modRcl i fun r => { r with hold := none, holdOverdue := true }
    if (e.s.sec i).rcl.phase = .gating ∧ e.s.holdFails i = true then e.lockout i .vehicleHoldExpired else e
  else e

/-- R72: the line-test expiry in TESTING. -/
def Ev.lineTestExpiry (e : Ev) (i : SecNo) : Ev :=
  if (e.s.sec i).rcl.phase = .testing ∧ dueNow e.s.partTime (e.s.sec i).rcl.lineTest then e.shotFailed i .testFailed
  else e

/-- R75: the reclaim expiry. -/
def Ev.reclaimExpiry (e : Ev) (i : SecNo) : Ev :=
  if (e.s.sec i).rcl.phase = .reclaim ∧ dueNow e.s.partTime (e.s.sec i).rcl.reclaim then e.reclaimOver i else e

/-- R91: the window expiry of an OPEN incident. -/
def Ev.windowExpiry (e : Ev) (n : Nat) : Ev :=
  if (e.s.record? n).any fun r => r.state == .opened && dueNow e.s.partTime r.window then e.windowClosed n else e

/-- R127: the life expiry of a queued request. -/
def Ev.lifeExpiry (e : Ev) (p : PointNo) (vehicle : Nat) : Ev :=
  match (e.s.point p).queue.find? fun q => q.vehicle == vehicle with
  | none => e
  | some q => if q.life.due e.s.partTime then e.requestExpired p q else e

/-- R130: the throw expiry of a THROWING point. -/
def Ev.throwExpiry (e : Ev) (p : PointNo) : Ev :=
  if (e.s.point p).activity = .throwing ∧ dueNow e.s.partTime ((e.s.point p).motion.map Motion.expiry) then
    e.throwFailed p
  else e

/-! ### Meanings -/

/-- R191: STORE_TRANSACTION_ANSWER. -/
def execStoreTransactionAnswer (s : State) : Out := s.event Ev.transactionAnswered

/-- R191: TRANSACTION_EXPIRY. -/
def execTransactionExpiry (s : State) : Out := s.event Ev.transactionExpiry

/-- R13: CLOSE_CONFIRM_TIME_EXPIRY. -/
def execCloseConfirmTimeExpiry (i : SecNo) (s : State) : Out := s.event fun e => e.closeConfirmTimeExpiry i

/-- R15: SECTION_OPEN_EXPIRY. -/
def execSectionOpenExpiry (i : SecNo) (s : State) : Out := s.event fun e => e.sectionOpenExpiry i

/-- R18: SECTION_TRIP_EXPIRY. -/
def execSectionTripExpiry (i : SecNo) (s : State) : Out := s.event fun e => e.sectionTripExpiry i

/-- R22: STATION_CLOSE_EXPIRY. -/
def execStationCloseExpiry (s : State) : Out := s.event Ev.stationCloseExpiry

/-- R22: STATION_OPEN_EXPIRY. -/
def execStationOpenExpiry (s : State) : Out := s.event Ev.stationOpenExpiry

/-- R21: BACKUP_TRIP_EXPIRY. -/
def execBackupTripExpiry (s : State) : Out := s.event Ev.backupTripExpiry

/-- R51: STALE_EXPIRY. -/
def execStaleExpiry (i : SecNo) (r : SourceRole) (s : State) : Out := s.event fun e => e.staleExpiry i r

/-- R59: BLIND_EXPIRY. -/
def execBlindExpiry (i : SecNo) (s : State) : Out := s.event fun e => e.blindExpiry i

/-- R68: DEAD_TIME_EXPIRY. -/
def execDeadTimeExpiry (i : SecNo) (s : State) : Out := s.event fun e => e.deadTimeExpiry i

/-- R71: HOLD_EXPIRY. -/
def execHoldExpiry (i : SecNo) (s : State) : Out := s.event fun e => e.holdExpiry i

/-- R72: LINE_TEST_EXPIRY. -/
def execLineTestExpiry (i : SecNo) (s : State) : Out := s.event fun e => e.lineTestExpiry i

/-- R75: RECLAIM_EXPIRY. -/
def execReclaimExpiry (i : SecNo) (s : State) : Out := s.event fun e => e.reclaimExpiry i

/-- R91: WINDOW_EXPIRY. -/
def execWindowExpiry (n : Nat) (s : State) : Out := s.event fun e => e.windowExpiry n

/-- R105: ADMISSION_EXPIRY. -/
def execAdmissionExpiry (v : Nat) (s : State) : Out := s.event fun e => e.admissionExpiry v

/-- R113: SILENCE_EXPIRY. -/
def execSilenceExpiry (v : Nat) (s : State) : Out := s.event fun e => e.silenceExpiry v

/-- R127: LIFE_EXPIRY. -/
def execLifeExpiry (p : PointNo) (v : Nat) (s : State) : Out := s.event fun e => e.lifeExpiry p v

/-- R130: THROW_EXPIRY. -/
def execThrowExpiry (p : PointNo) (s : State) : Out := s.event fun e => e.throwExpiry p

/-- R174: CONTROL_SILENCE_EXPIRY. -/
def execControlSilenceExpiry (s : State) : Out := s.event Ev.silenceTaken

/-- R178: DAY_TIME_ROLLOVER. -/
def execDayTimeRollover (s : State) : Out := s.running State.dayRollover

/-- R179: POWER_ON. -/
def execPowerOn (s : State) : Out := .next (s.supplyReturns .powerOn)

/-- R179: SUPPLY_DIP. -/
def execSupplyDip (s : State) : Out := .next (s.supplyReturns .supplyDip)

/-- R179: SUPPLY_FAILURE. -/
def execSupplyFailure (s : State) : Out := .next s.supplyFails

/-- R179: RESET_LINE_ASSERTED. -/
def execResetLineAsserted (s : State) : Out := .next s.assertReset

/-- R179: RESET_LINE_RELEASED. -/
def execResetLineReleased (s : State) : Out := .next s.releaseReset

end Sys2Proof.Machine
end

