-- ==== Sys2Proof/Machine/Dispatch.lean ====
section
/-! DEFINITION. One arm per command: one direct call of its meaning. -/

namespace Sys2Proof.Machine

open Sys2Proof

/-- What a command does to everything but the queue. -/
def exec (i : Instr) (s : State) : Host.Outcome State Fault Refusal :=
  match i with
  | .powerOn => Sys2Proof.Machine.execPowerOn s
  | .supplyDip => Sys2Proof.Machine.execSupplyDip s
  | .resetLineAsserted => Sys2Proof.Machine.execResetLineAsserted s
  | .resetLineReleased => Sys2Proof.Machine.execResetLineReleased s
  | .telegramReceived line frame => Sys2Proof.Machine.execTelegramReceived line frame s
  | .linkOffer line dst src body => Sys2Proof.Machine.execLinkOffer line dst src body s
  | .idleGap line byteTimes => Sys2Proof.Machine.execIdleGap line byteTimes s
  | .babbleCutoff line => Sys2Proof.Machine.execBabbleCutoff line s
  | .transmitTelegram line => Sys2Proof.Machine.execTransmitTelegram line s
  | .ackOfferEnd line => Sys2Proof.Machine.execAckOfferEnd line s
  | .offerExpiry line => Sys2Proof.Machine.execOfferExpiry line s
  | .partnerExpiry line => Sys2Proof.Machine.execPartnerExpiry line s
  | .quietExpiry line => Sys2Proof.Machine.execQuietExpiry line s
  | .takeTelegram line => Sys2Proof.Machine.execTakeTelegram line s
  | .sample k role body => Sys2Proof.Machine.execSample k role body s
  | .breakerState obj body => Sys2Proof.Machine.execBreakerState obj body s
  | .lineTestResult obj body => Sys2Proof.Machine.execLineTestResult obj body s
  | .pointPosition p body => Sys2Proof.Machine.execPointPosition p body s
  | .contact p role body => Sys2Proof.Machine.execContact p role body s
  | .vehicleStatus body => Sys2Proof.Machine.execVehicleStatus body s
  | .routeRequest body => Sys2Proof.Machine.execRouteRequest body s
  | .timeMark line src body => Sys2Proof.Machine.execTimeMark line src body s
  | .supervisedOrder entry tg => Sys2Proof.Machine.execSupervisedOrder entry tg s
  | .sectionClose req sec => Sys2Proof.Machine.execSectionClose req sec s
  | .sectionOpen req sec kind => Sys2Proof.Machine.execSectionOpen req sec kind s
  | .sectionReset req sec => Sys2Proof.Machine.execSectionReset req sec s
  | .sectionIsolate req sec force => Sys2Proof.Machine.execSectionIsolate req sec force s
  | .sectionRelease req sec => Sys2Proof.Machine.execSectionRelease req sec s
  | .stationClose req => Sys2Proof.Machine.execStationClose req s
  | .stationOpen req kind => Sys2Proof.Machine.execStationOpen req kind s
  | .stationReset req => Sys2Proof.Machine.execStationReset req s
  | .pointSet req point leg => Sys2Proof.Machine.execPointSet req point leg s
  | .pointLock req point leg => Sys2Proof.Machine.execPointLock req point leg s
  | .pointUnlock req point => Sys2Proof.Machine.execPointUnlock req point s
  | .pointClear req point => Sys2Proof.Machine.execPointClear req point s
  | .vehicleForget req vehicle => Sys2Proof.Machine.execVehicleForget req vehicle s
  | .readState req kind number part => Sys2Proof.Machine.execReadState req kind number part s
  | .readEntry req table index => Sys2Proof.Machine.execReadEntry req table index s
  | .writeEntry req table index entry => Sys2Proof.Machine.execWriteEntry req table index entry s
  | .entryActive req table index flag => Sys2Proof.Machine.execEntryActive req table index flag s
  | .setMode req mode => Sys2Proof.Machine.execSetMode req mode s
  | .readCounters req group => Sys2Proof.Machine.execReadCounters req group s
  | .clearCounters req => Sys2Proof.Machine.execClearCounters req s
  | .readIncident req selector number part piece => Sys2Proof.Machine.execReadIncident req selector number part piece s
  | .clearIncidents req => Sys2Proof.Machine.execClearIncidents req s
  | .storeRead req address count => Sys2Proof.Machine.execStoreRead req address count s
  | .storeWrite req address bytes => Sys2Proof.Machine.execStoreWrite req address bytes s
  | .storeSave req => Sys2Proof.Machine.execStoreSave req s
  | .storeReload req => Sys2Proof.Machine.execStoreReload req s
  | .restartCold req => Sys2Proof.Machine.execRestartCold req s
  | .restartWarm req => Sys2Proof.Machine.execRestartWarm req s
  | .storeTransactionAnswer => Sys2Proof.Machine.execStoreTransactionAnswer s
  | .transactionExpiry => Sys2Proof.Machine.execTransactionExpiry s
  | .closeConfirmTimeExpiry k => Sys2Proof.Machine.execCloseConfirmTimeExpiry k s
  | .sectionOpenExpiry k => Sys2Proof.Machine.execSectionOpenExpiry k s
  | .sectionTripExpiry k => Sys2Proof.Machine.execSectionTripExpiry k s
  | .stationCloseExpiry => Sys2Proof.Machine.execStationCloseExpiry s
  | .stationOpenExpiry => Sys2Proof.Machine.execStationOpenExpiry s
  | .backupTripExpiry => Sys2Proof.Machine.execBackupTripExpiry s
  | .staleExpiry k role => Sys2Proof.Machine.execStaleExpiry k role s
  | .blindExpiry k => Sys2Proof.Machine.execBlindExpiry k s
  | .deadTimeExpiry k => Sys2Proof.Machine.execDeadTimeExpiry k s
  | .holdExpiry k => Sys2Proof.Machine.execHoldExpiry k s
  | .lineTestExpiry k => Sys2Proof.Machine.execLineTestExpiry k s
  | .reclaimExpiry k => Sys2Proof.Machine.execReclaimExpiry k s
  | .windowExpiry incident => Sys2Proof.Machine.execWindowExpiry incident s
  | .admissionExpiry vehicle => Sys2Proof.Machine.execAdmissionExpiry vehicle s
  | .silenceExpiry vehicle => Sys2Proof.Machine.execSilenceExpiry vehicle s
  | .lifeExpiry p vehicle => Sys2Proof.Machine.execLifeExpiry p vehicle s
  | .throwExpiry p => Sys2Proof.Machine.execThrowExpiry p s
  | .controlSilenceExpiry => Sys2Proof.Machine.execControlSilenceExpiry s
  | .dayTimeRollover => Sys2Proof.Machine.execDayTimeRollover s
  | .byteArrives line byte => Sys2Proof.Machine.execByteArrives line byte s
  | .supplyFailure => Sys2Proof.Machine.execSupplyFailure s
  | .transmitterFree line => Sys2Proof.Machine.execTransmitterFree line s

end Sys2Proof.Machine
end

