-- ==== Sys2Proof/Machine/Step.lean ====
section
/-! DEFINITION. One step: the command at the front of the queue, or one millisecond of part time on an empty queue. -/

namespace Sys2Proof.Machine

open Sys2Proof

/-- A millisecond of part time passes; every expiry is judged by it, and taken by its own command (log 2). -/
def State.tick (s : State) : State := { s with partTime := s.partTime + 1 }

/-- The command at the front of the queue is taken, with the queue's rest; on an empty queue part time goes on. -/
def step (s : State) : Host.Outcome State Fault Refusal :=
  match s.pending with
  | [] => .next s.tick
  | c :: rest => exec c { s with pending := rest }

/-- The command a word spells, put at the front of the queue; no word of the table spells one (log 25). -/
def State.withFetchWord (s : State) (nbits w : Nat) : State :=
  match decodeTableWord nbits w with
  | some c => { s with pending := c :: s.pending }
  | none => s

end Sys2Proof.Machine
end

