-- ==== Sys2Proof/Safety.lean ====
section
/-! DEFINITION. The terms claims are stated in: when the part takes events at all, what it must have told the points, the
law of LIVE (R4) with the facts it rests on, the limits of its buffers and counts, and what a frame compares. -/

namespace Sys2Proof.Machine

open Sys2Proof

/-! ### When the part takes events -/

/-- R152, R179: the part is not held in reset and its configuration is loaded. -/
abbrev State.Working (s : State) : Prop := s.held = false ∧ s.loading = false

/-- R118, R131: each active point has been told whether its supply section is LIVE. -/
abbrev State.SuppliesTold (s : State) : Prop :=
  ∀ p : PointNo, (s.pointEntry p).active = true →
    (s.point p).supplyLive = ((s.sec (s.pointEntry p).supply).ctl.state == .live)

/-- R59: the section is not BLIND with its blind expiry taken, so that no BLIND decision meets its change of state. -/
abbrev State.NotBlindOverdue (s : State) (i : SecNo) : Prop :=
  (s.sec i).sel.state ≠ .blind ∨ (s.sec i).sel.overdue = false

/-! ### The law of LIVE -/

/-- R4: one section's part of the law: LIVE with both positions CLOSED; CLOSING with the station position CLOSED (R13);
a former state that is a lock (R1); GATING in WAITING and TESTING in TESTING (R65); an inactive section DEAD (R1) and in
no sequence (R65). -/
structure State.SectionLawful (s : State) (i : SecNo) : Prop where
  live : (s.sec i).ctl.state = .live → (s.sec i).ctl.position = .closed ∧ s.station.position = .closed
  closing : (s.sec i).ctl.state = .closing → s.station.position = .closed
  former : ∀ st r, (s.sec i).ctl.former = some (st, r) → st = .lockedOut ∨ st = .isolated
  gating : (s.sec i).rcl.phase = .gating → (s.sec i).ctl.state = .waiting
  testing : (s.sec i).rcl.phase = .testing → (s.sec i).ctl.state = .testing
  inactive : (s.secEntry i).active = false → (s.sec i).ctl.state = .dead ∧ (s.sec i).rcl.phase = .idle

/-- R4, R192: the law of LIVE for every section; while the configuration is loaded, every section's records stand at
their cold-restart values. -/
structure State.Lawful (s : State) : Prop where
  sections : ∀ i : SecNo, s.SectionLawful i
  loading : s.loading = true → ∀ i : SecNo, s.sec i = coldSec

/-! ### Limits -/

/-- R164, R165, R166: the limits of one port's buffer and queues. -/
structure Port.Bounded (p : Port) : Prop where
  buffer : p.buffer.length ≤ bufferPlaces
  normal : p.normal.length ≤ normalPlaces
  urgent : (p.urgent.map UrgentOrder.obj).Nodup

/-- R122, R124: the limits of one point. -/
structure Point.Bounded (x : Point) : Prop where
  occupancy : x.occupancy ≤ 3
  queue : x.queue.length ≤ requestPlaces

/-- R122, R124, R164, R165, R166: every buffer, queue and occupancy is within its limit. -/
structure State.Bounded (s : State) : Prop where
  field : s.fieldPort.Bounded
  control : s.controlPort.Bounded
  points : ∀ p : PointNo, (s.point p).Bounded

/-! ### Frames -/

/-- What no event of the sections, the station, the vehicles, the points or the mode touches: part time, the pins, the
configuration with the counts of its binding entries, the store, the model's own counter and the queue of commands. -/
abbrev State.background (s : State) :
    PartTime × Bool × Bool × Tables × Vector BindCount 64 × StoreRecord × List Host.Cell × Nat × List Instr :=
  (s.partTime, s.supplyUp, s.resetLine, s.tables, s.bindCounts, s.store, s.storeMem, s.freeCount, s.pending)

/-- A port apart from its normal queue and the discards from it. -/
abbrev Port.besidesNormal (p : Port) : Port :=
  { p with normal := [], counters := { p.counters with txDiscards := 0 } }

/-- A port apart from its normal queue, the discards from it, and its urgent queue. -/
abbrev Port.besidesQueues (p : Port) : Port := { p.besidesNormal with urgent := [] }

/-- Every section but one stands as it stood. -/
abbrev State.sameSecsBut (s t : State) (i : SecNo) : Prop := ∀ j : SecNo, j ≠ i → t.sec j = s.sec j

/-- Every point but one stands as it stood. -/
abbrev State.samePointsBut (s t : State) (p : PointNo) : Prop := ∀ q : PointNo, q ≠ p → t.point q = s.point q

/-! ### What the closure of an incident does -/

/-- R93: the incident list with the record of a number closed now with an outcome. -/
abbrev State.closedList (s : State) (n : Nat) (o : IncOutcome) : IncidentList :=
  { s.incidents with records := s.incidents.records.map fun x =>
      if x.number = n then { x with state := .closed, outcome := some o, closed := some s.stamp, window := none } else x }

/-- R92: the incident list with a shot entry added to the record of a number. -/
abbrev State.shotList (s : State) (n : Nat) (shot : Nat × ShotOutcome) : IncidentList :=
  { s.incidents with records := s.incidents.records.map fun x =>
      if x.number = n then { x with shots := x.shots ++ [shot] } else x }

/-- R93: the vehicle table with the attributed count of each vehicle that a record lists lowered by one. -/
abbrev State.uncounted (s : State) (r : Incident) : VehicleTable :=
  (r.vehicles.foldl (fun t a => t.countDown a.vehicle) s).vehicles

/-! ### What an event sends -/

/-- R26: queue the SECTION_REPORT of a section as it now stands. -/
abbrev State.reportSection (s : State) (i : SecNo) : State :=
  s.pushNormal .control (s.report kSectionReport (s.sectionReportBody i))

/-- R26: queue the STATION_REPORT as the station now stands. -/
abbrev State.reportStation (s : State) : State :=
  s.pushNormal .control (s.report kStationReport s.stationReportBody)

/-- R137: queue the POINT_REPORT of a point as it now stands. -/
abbrev State.reportPoint (s : State) (p : PointNo) : State :=
  s.pushNormal .control (s.report kPointReport (s.pointReportBody p))

/-- R183, R184: queue the COMMAND_RESULT of a COMMAND on the line it came on. -/
abbrev State.answerCommand (s : State) (r : Req) (code : Byte) (res : Result) : State :=
  s.pushNormal r.line (answerTelegram s.settings.own r kCommandResult code res [])

/-- R183, R184: queue the MG_REPLY of a management request on the line it came on. -/
abbrev State.answerRequest (s : State) (r : Req) (code : Byte) (res : Result) (data : List Byte) : State :=
  s.pushNormal r.line (answerTelegram s.settings.own r kMgReply code res data)

/-- R183: count a COMMAND taken. -/
abbrev State.countCommand (s : State) : State :=
  { s with commands := { s.commands with commands := inc16 s.commands.commands } }

/-- R183: count a management request taken. -/
abbrev State.countRequest (s : State) : State :=
  { s with commands := { s.commands with requests := inc16 s.commands.requests } }

end Sys2Proof.Machine
end

