-- ==== Sys2Proof/Certificates/Slice0/Obligations.lean ====
section
/-! DEFINITION. The statements for the provers. Each follows the rules its docstring names; a clause that rests on a
choice of the model names its log entry. -/

open Sys2Proof Sys2Proof.Machine

/-! ### The queue, reset and the whole machine -/

/-- The command at the front of the queue is executed with the queue's rest. On an empty queue one millisecond of part
time passes and nothing else changes, which is the model's choice (log 2). -/
def Obligations.StepTakesTheFrontCommand : Prop :=
  ∀ s : State,
    (∀ (c : Instr) (rest : List Instr), s.pending = c :: rest → step s = exec c { s with pending := rest }) ∧
    (s.pending = [] → step s = .next { s with partTime := s.partTime + 1 })

/-- What `State.reset` holds, by the cold-restart columns of R1, R19, R27, R49, R52, R65, R84, R99, R117, R154 and R170
and the defaults of R189. Every section is DEAD with reason RESTART, position UNKNOWN, its line released, H 0, no last
sample, QUIET, both sources at run 0, BLIND, shot count 0 and IDLE. The station is OPEN with reason RESTART and position
UNKNOWN. No incident and no vehicle is held, and the next incident number is 1. Every point is AT_REST at UNKNOWN,
occupancy 0, unlocked, its queue empty. Each port is NEGOTIATING at 9600 and WAITING_GAP, its buffer and queues empty. The
mode is OBSERVE, day time absent, the load under way, the own station 254 and the control station 1. -/
def Obligations.ResetHoldsTheColdRestartValues : Prop :=
  (∀ i : SecNo, (State.reset.sec i).ctl =
      { state := .dead, reason := .restart, position := .unknown, pending := none, former := none, incident := none,
        tripLine := false } ∧
    (State.reset.sec i).feed.h = 0 ∧ (State.reset.sec i).feed.prev = none ∧ (State.reset.sec i).feed.rising = false ∧
    (State.reset.sec i).prim.run = 0 ∧ (State.reset.sec i).seco.run = 0 ∧ (State.reset.sec i).sel.state = .blind ∧
    (State.reset.sec i).rcl.shots = 0 ∧ (State.reset.sec i).rcl.phase = .idle) ∧
  State.reset.station = { state := .opened, reason := .restart, position := .unknown, pending := none, tripLine := false } ∧
  State.reset.incidents = { records := [], next := 1, evictions := 0 } ∧ State.reset.vehicles.entries = [] ∧
  (∀ p : PointNo, (State.reset.point p).position = .unknown ∧ (State.reset.point p).activity = .atRest ∧
    (State.reset.point p).occupancy = 0 ∧ (State.reset.point p).lock = none ∧ (State.reset.point p).queue = []) ∧
  (∀ l : Line, (State.reset.port l).link = .negotiating ∧ (State.reset.port l).rate = .r9600 ∧
    (State.reset.port l).rx = .waitingGap ∧ (State.reset.port l).buffer = [] ∧ (State.reset.port l).urgent = [] ∧
    (State.reset.port l).normal = []) ∧
  State.reset.mode = .observe ∧ State.reset.modeRec.dayRef = none ∧ State.reset.loading = true ∧
  State.reset.settings.own = 254 ∧ State.reset.settings.control = 1 ∧ State.reset.pending = []

/-- The invariants below hold of the machine right after reset. -/
def Obligations.ResetMeetsTheInvariants : Prop :=
  State.reset.Lawful ∧ State.reset.Bounded ∧ State.reset.SuppliesTold ∧ Memory.wf State.reset.storeMem = true

/-- R4's law: a section is LIVE only while its breaker position and the station position are CLOSED, kept by every step
together with the facts it rests on (`State.SectionLawful`). -/
def Obligations.EveryStepKeepsTheLawOfLive : Prop :=
  ∀ s t : State, s.Lawful → step s = .next t → t.Lawful

/-- R122, R124, R164, R165, R166: a receive buffer never holds more than 4 telegrams, a normal queue never more than 32,
an urgent queue never two orders for one breaker object, a point never an occupancy above 3 or more than 4 requests. -/
def Obligations.EveryStepKeepsBuffersAndCountsInRange : Prop :=
  ∀ s t : State, s.Bounded → step s = .next t → t.Bounded

/-- The contents of the store stay in their canonical form. -/
def Obligations.EveryStepKeepsTheStoreCanonical : Prop :=
  ∀ s t : State, Memory.wf s.storeMem = true → step s = .next t → Memory.wf t.storeMem = true

/-- R4, R131: after every step each active point has been told whether its supply section is LIVE. -/
def Obligations.EveryStepTellsThePointsTheirSupply : Prop :=
  ∀ s t : State, s.SuppliesTold → step s = .next t → t.SuppliesTold

/-- R5, R7: a command that finds the part in OBSERVE and leaves it there adds no order to the Field line urgent queue and
asserts no trip line. -/
def Obligations.NothingIsOrderedInObserve : Prop :=
  ∀ (c : Instr) (s t : State), exec c s = .next t → s.mode = .observe → t.mode = .observe →
    (∀ o ∈ t.fieldPort.urgent, o ∈ s.fieldPort.urgent) ∧
    (∀ i : SecNo, (t.sec i).ctl.tripLine = true → (s.sec i).ctl.tripLine = true) ∧
    (t.station.tripLine = true → s.station.tripLine = true)

/-! ### Supply and reset line -/

/-- R179: the supply comes up, the reset line is released with the supply up, or RESTART of kind COLD is asked for with no
store operation in flight: every block takes its cold-restart values and the load begins, with the cause recorded. No
write transaction is outstanding. The store's contents are kept. Part time starts at 0, the load's first read is
outstanding, and last change, store status and the selectors stand as the model chooses them while the load is under way
(logs 4, 30, 44, 46, 53). -/
def Obligations.ColdRestartTakesEveryColdValue : Prop :=
  ∀ s : State, (∀ a bs x, s.store.trans ≠ some (.write a bs, x)) →
    (s.resetLine = false →
      exec .powerOn s = .next { State.reset with
        modeRec := coldMode .powerOn none, storeMem := s.storeMem, freeCount := s.freeCount, pending := s.pending } ∧
      exec .supplyDip s = .next { State.reset with
        modeRec := coldMode .supplyDip none, storeMem := s.storeMem, freeCount := s.freeCount, pending := s.pending }) ∧
    (s.resetLine = true → s.supplyUp = true →
      exec .resetLineReleased s = .next { State.reset with
        modeRec := coldMode .resetLine none, storeMem := s.storeMem, freeCount := s.freeCount, pending := s.pending }) ∧
    (∀ r : Req, s.Working → s.mayManage r = true → s.store.op = none →
      exec (.restartCold r) s = .next { State.reset with
        modeRec := coldMode .coldRequest (some r.tag), storeMem := s.storeMem, freeCount := s.freeCount,
        pending := s.pending })

/-- R7, R179: a supply failure, and the assertion of the reset line, release every trip line and interrupt the store
operation in flight. That the rest stands until the restart ends is the model's choice (log 24). No write transaction is
outstanding. -/
def Obligations.SupplyFailureAndResetLineReleaseTheTripLines : Prop :=
  ∀ s : State, (∀ a bs x, s.store.trans ≠ some (.write a bs, x)) →
    exec .supplyFailure s = .next { s with
      supplyUp := false, store := { s.store with op := none, requester := none, trans := none },
      station := { s.station with tripLine := false },
      secs := s.secs.map fun x => { x with ctl := { x.ctl with tripLine := false } } } ∧
    exec .resetLineAsserted s = .next { s with
      resetLine := true, store := { s.store with op := none, requester := none, trans := none },
      station := { s.station with tripLine := false },
      secs := s.secs.map fun x => { x with ctl := { x.ctl with tripLine := false } } }

/-- R179, R190: a write transaction that a cold restart interrupts leaves every byte outside its run as it was, and each
byte of its run either as it was or as written. Which of the two it is, is a free choice (log 7). -/
def Obligations.InterruptedWriteTouchesOnlyItsRun : Prop :=
  ∀ (s : State) (a : Nat) (bs : List Byte) (x : Expiry) (c : Instr) (t : State), Memory.wf s.storeMem = true →
    s.store.trans = some (.write a bs, x) → c ∈ [.powerOn, .supplyDip, .supplyFailure, .resetLineAsserted] →
    exec c s = .next t →
    ∀ y, (y < a ∨ a + bs.length ≤ y → readCell y t.storeMem = readCell y s.storeMem) ∧
      (readCell y t.storeMem = readCell y s.storeMem ∨ ∃ k, k < bs.length ∧ y = a + k ∧ readCell y t.storeMem = bs.getD k 0)

/-- The model's choice (log 24) for "the part stays in reset": while the supply is down or the reset line is asserted, no
command but those of the supply and the reset line has an effect. -/
def Obligations.NothingActsWhileHeldInReset : Prop :=
  ∀ (c : Instr) (s : State), s.held = true →
    c ∉ [.powerOn, .supplyDip, .supplyFailure, .resetLineAsserted, .resetLineReleased] → exec c s = .next s

/-! ### The line ports -/

/-- R162, R164: in UP, the bytes of a telegram of a kind other than LINK_OFFER put it into the receive buffer with its
check word where the buffer holds fewer than 4, and are an overrun otherwise; in both cases the telegram is counted valid
and restarts the quiet expiry (R159). In every link state a telegram with another check word is counted as a check error
and discarded. Nothing but the line's port changes. -/
def Obligations.ValidTelegramGoesIntoTheBuffer : Prop :=
  ∀ (l : Line) (tg : Telegram) (w : CheckWord) (s : State), s.held = false → (s.port l).rx = .ready →
    tg.body.length ≤ 48 →
    ((s.port l).link = .up → tg.kind ≠ kLinkOffer → (s.port l).buffer.length < 4 →
      exec (.telegramReceived l (Telegram.frame tg)) s = .next (s.modPort l fun p =>
        { p with
          rx := .skipping, rxBytes := [], rxRun := 7 + tg.body.length, rxTail := true,
          buffer := p.buffer ++ [⟨tg, crc (Telegram.covered tg)⟩], quiet := some ⟨s.partTime, 3000⟩,
          counters := { p.counters with valid := inc32 p.counters.valid } })) ∧
    ((s.port l).link = .up → tg.kind ≠ kLinkOffer → 4 ≤ (s.port l).buffer.length →
      exec (.telegramReceived l (Telegram.frame tg)) s = .next (s.modPort l fun p =>
        { p with
          rx := .skipping, rxBytes := [], rxRun := 7 + tg.body.length, rxTail := true,
          quiet := some ⟨s.partTime, 3000⟩,
          counters := { p.counters with valid := inc32 p.counters.valid, overruns := inc32 p.counters.overruns } })) ∧
    (w ≠ crc (Telegram.covered tg) →
      exec (.telegramReceived l (sync :: Telegram.covered tg ++ be16 w.toNat)) s = .next (s.modPort l fun p =>
        { p with
          rx := .skipping, rxBytes := [], rxRun := 7 + tg.body.length, rxTail := true,
          counters := { p.counters with checks := inc32 p.counters.checks } }))

/-- R162: what a byte does outside a telegram. WAITING_GAP and BABBLE ignore it, READY takes SYNC as the beginning of a
telegram and spoils a run on any other byte, SKIPPING skips it, counting the first that follows a complete telegram. -/
def Obligations.ByteOutsideATelegram : Prop :=
  ∀ (l : Line) (b : Byte) (s : State), s.held = false →
    ((s.port l).rx = .waitingGap ∨ (s.port l).rx = .babble → exec (.byteArrives l b) s = .next s) ∧
    ((s.port l).rx = .ready → b = 0xC3 → exec (.byteArrives l b) s = .next (s.modPort l fun p =>
      { p with rx := .receiving, rxBytes := [], rxRun := 1, rxTail := false })) ∧
    ((s.port l).rx = .ready → b ≠ 0xC3 → exec (.byteArrives l b) s = .next (s.modPort l fun p =>
      { p with rx := .skipping, rxBytes := [], rxRun := 1, rxTail := false,
               counters := { p.counters with formats := inc32 p.counters.formats } })) ∧
    ((s.port l).rx = .skipping → (s.port l).rxRun < 64 → (s.port l).rxTail = false →
      exec (.byteArrives l b) s = .next (s.modPort l fun p => { p with rxRun := p.rxRun + 1 })) ∧
    ((s.port l).rx = .skipping → (s.port l).rxRun < 64 → (s.port l).rxTail = true →
      exec (.byteArrives l b) s = .next (s.modPort l fun p =>
        { p with rx := .skipping, rxBytes := [], rxTail := false, rxRun := p.rxRun + 1,
                 counters := { p.counters with formats := inc32 p.counters.formats } }))

/-- R162, R163: a reception is cut off by the byte that would be its 65th, and by BABBLE_CUTOFF, and is counted as a babble
event alone. That the command cuts off a reception whatever its count of byte times is the model's reading (log 3). An idle
gap of 2 or more byte times makes the receiver READY, a telegram it cuts being a format error; BABBLE ends at a gap of 16. -/
def Obligations.BabbleAndIdleGaps : Prop :=
  ∀ (l : Line) (b : Byte) (n : Nat) (s : State), s.held = false → 2 ≤ n →
    ((s.port l).rx = .receiving ∨ (s.port l).rx = .skipping →
      exec (.babbleCutoff l) s = .next (s.modPort l fun p =>
        { p with rx := .babble, rxBytes := [], rxRun := 0, rxTail := false,
                 counters := { p.counters with babbles := inc32 p.counters.babbles } }) ∧
      (64 ≤ (s.port l).rxRun → exec (.byteArrives l b) s = .next (s.modPort l fun p =>
        { p with rx := .babble, rxBytes := [], rxRun := 0, rxTail := false,
                 counters := { p.counters with babbles := inc32 p.counters.babbles } }))) ∧
    ((s.port l).rx = .waitingGap ∨ (s.port l).rx = .ready ∨ (s.port l).rx = .skipping ∨
        (s.port l).rx = .babble ∧ 16 ≤ n →
      exec (.idleGap l n) s = .next (s.modPort l fun p =>
        { p with rx := .ready, rxBytes := [], rxRun := 0, rxTail := false })) ∧
    ((s.port l).rx = .receiving → exec (.idleGap l n) s = .next (s.modPort l fun p =>
      { p with rx := .ready, rxBytes := [], rxRun := 0, rxTail := false,
               counters := { p.counters with formats := inc32 p.counters.formats } })) ∧
    ((s.port l).rx = .babble → n < 16 → exec (.idleGap l n) s = .next s)

/-- R155, R156, R157: a usable plain offer in NEGOTIATING with the transmitter free: the port resolves the highest rate
that lies in its own set and in the received one, 9600 where none does, becomes ACKNOWLEDGING and sends an ACK offer at
once. Nothing but the line's port changes. -/
def Obligations.PlainOfferBeginsAcknowledging : Prop :=
  ∀ (l : Line) (dst src ability rest : Byte) (s : State), s.held = false → (s.port l).rx = .ready →
    (s.port l).link = .negotiating → (s.port l).rate = .r9600 → (s.port l).tx = none → ability.toNat % 16 ≠ 0 →
    ∃ (t : State) (r : Rate), exec (.linkOffer l dst src [ability, 0, rest]) s = .next t ∧
      (r = .r9600 ∨ allows (s.ability l) r = true ∧ allows ability r = true) ∧
      (∀ q : Rate, allows (s.ability l) q = true → allows ability q = true → q.bit ≤ r.bit) ∧
      (t.port l).link = .acknowledging ∧ (t.port l).resolved = some r ∧
      (t.port l).ackReceived = false ∧ (t.port l).partnerExp = none ∧ (t.port l).quiet = some ⟨s.partTime, 3000⟩ ∧
      (t.port l).tx = some ⟨Telegram.frame (s.telegram 0 kLinkOffer [s.ability l, 1, r.code]), false⟩ ∧
      (t.port l).rate = .r9600 ∧ (t.port l).buffer = (s.port l).buffer ∧ (t.port l).urgent = (s.port l).urgent ∧
      (t.port l).normal = (s.port l).normal ∧ t = s.modPort l fun _ => t.port l

/-- R155, R157, R158, R159: the expiries of a port. The offer expiry sends an offer and runs again 100 ms later, and the
partner expiry ends the partner wait. The quiet expiry in ACKNOWLEDGING and in UP returns the port to NEGOTIATING; its
buffer and its queues keep what they hold. Nothing but the line's port changes. -/
def Obligations.LinkExpiries : Prop :=
  ∀ (l : Line) (s : State), s.held = false →
    ((s.port l).link ≠ .up → dueNow s.partTime (s.port l).offerExp = true → (s.port l).tx = none →
      exec (.offerExpiry l) s = .next (s.modPort l fun p =>
        { p with offerExp := some ⟨s.partTime, 100⟩, tx := some ⟨Telegram.frame (s.offer l), false⟩ })) ∧
    ((s.port l).link = .negotiating → dueNow s.partTime (s.port l).partnerExp = true →
      exec (.partnerExpiry l) s = .next (s.modPort l fun p => { p with partnerOver := true, partnerExp := none })) ∧
    ((s.port l).link ≠ .negotiating → dueNow s.partTime (s.port l).quiet = true →
      ∃ t : State, exec (.quietExpiry l) s = .next t ∧
      (t.port l).link = .negotiating ∧ (t.port l).rate = .r9600 ∧ (t.port l).resolved = none ∧
      (t.port l).partner = none ∧ (t.port l).upSince = none ∧ (t.port l).ackReceived = false ∧
      (t.port l).partnerOver = false ∧ (t.port l).quiet = none ∧
      (t.port l).partnerExp = some ⟨s.partTime, 2000⟩ ∧ (t.port l).offerExp = some ⟨s.partTime, 0⟩ ∧
      (t.port l).buffer = (s.port l).buffer ∧ (t.port l).urgent = (s.port l).urgent ∧
      (t.port l).normal = (s.port l).normal ∧ (t.port l).counters = (s.port l).counters ∧
      t = s.modPort l fun _ => t.port l)

/-- R158: the further ACK offer ends in ACKNOWLEDGING with ACK received yes: the link is UP at the resolved rate with
partner AGREED; the queues keep what they hold, and nothing but the line's port changes. -/
def Obligations.FurtherAckOfferMakesTheLinkUp : Prop :=
  ∀ (l : Line) (s : State) (f : List Byte) (r : Rate), s.held = false → (s.port l).link = .acknowledging →
    (s.port l).ackReceived = true → (s.port l).resolved = some r → (s.port l).tx = some ⟨f, true⟩ →
    ∃ t : State, exec (.ackOfferEnd l) s = .next t ∧
      (t.port l).link = .up ∧ (t.port l).rate = r ∧ (t.port l).partner = some .agreed ∧
      (t.port l).upSince = some s.partTime ∧ (t.port l).offerExp = none ∧
      (t.port l).quiet = some ⟨s.partTime, 3000⟩ ∧ (t.port l).tx = none ∧ (t.port l).buffer = (s.port l).buffer ∧
      (t.port l).urgent = (s.port l).urgent ∧ (t.port l).normal = (s.port l).normal ∧
      t = s.modPort l fun _ => t.port l

/-- R167: while the link is UP the free transmitter takes the oldest urgent order, and otherwise the oldest telegram of
the normal queue. R155: while it is not UP, a transmitter that becomes free is idle where no offer waits. -/
def Obligations.TransmitterTakesTheUrgentQueueFirst : Prop :=
  ∀ (l : Line) (s : State), s.held = false →
    (∀ o os, (s.port l).link = .up → (s.port l).urgent = o :: os →
      exec (.transmitTelegram l) s = .next (s.modPort l fun p =>
        { p with urgent := os, tx := some ⟨Telegram.frame o.tg, false⟩ })) ∧
    (∀ t ts, (s.port l).link = .up → (s.port l).urgent = [] → (s.port l).normal = t :: ts →
      exec (.transmitTelegram l) s = .next (s.modPort l fun p =>
        { p with normal := ts, tx := some ⟨Telegram.frame t, false⟩ })) ∧
    (∀ f, (s.port l).link ≠ .up → (s.port l).tx = some ⟨f, false⟩ → (s.port l).offersWaiting = 0 →
      (s.port l).furtherWaiting = false →
      exec (.transmitterFree l) s = .next (s.modPort l fun p => { p with tx := none }))

/-- Chapter 12, R162, R196: the bytes of a framed telegram, SYNC apart, are read back as that telegram with the check
word the receiver forms. -/
def Obligations.FramedTelegramReadsBack : Prop :=
  ∀ tg : Telegram, tg.body.length ≤ 48 →
    ∃ r : RxTelegram, rxTelegramOf (Telegram.frame tg).tail = some r ∧ r.tg = tg ∧ r.valid = true

/-! ### The traffic path -/

/-- R138, R142: a telegram that is not for the own station and does not come from the control station on the Control line
and that no entry matches: the default disposition FORWARD puts it into the other line's normal queue unchanged, and
DISCARD drops it. Each counts it for its own line, and nothing else changes. -/
def Obligations.UnmatchedTelegramTakesTheDefaultDisposition : Prop :=
  ∀ (l : Line) (r : RxTelegram) (rest : List RxTelegram) (s : State), s.Working → s.SuppliesTold →
    (s.port l).buffer = r :: rest → r.tg.dst ≠ s.settings.own → ¬(l = .control ∧ r.tg.src = s.settings.control) →
    (∀ k : Fin 64, s.tables.binding[k].matches l r.tg = false) →
    (s.settings.forwardDefault = true → exec (.takeTelegram l) s =
      .next (((s.modPort l fun p => { p with buffer := rest }).pushNormal (Line.other l) r.tg).modPort l fun p =>
        { p with counters := { p.counters with forwarded := inc32 p.counters.forwarded } })) ∧
    (s.settings.forwardDefault = false → exec (.takeTelegram l) s = .next (s.modPort l fun p =>
      { p with buffer := rest, counters := { p.counters with discarded := inc32 p.counters.discarded } }))

/-- R142, R143, R144: the deciding entry is the first active entry, in ascending index order, each of whose enabled compare
fields equals the telegram's value. With disposition FORWARD the telegram, its destination rewritten where the entry says
so, goes into the other line's normal queue; with DISCARD it is dropped. Each counts a hit of the entry and the telegram
for its line, and nothing else changes. -/
def Obligations.DecidingEntryForwardsOrDiscards : Prop :=
  ∀ (l : Line) (r : RxTelegram) (rest : List RxTelegram) (s : State) (k : Fin 64), s.Working → s.SuppliesTold →
    (s.port l).buffer = r :: rest → r.tg.dst ≠ s.settings.own → ¬(l = .control ∧ r.tg.src = s.settings.control) →
    (∀ j : Fin 64, j ≤ k → (j = k ↔
      (s.tables.binding[j].active = true ∧ (s.tables.binding[j].line.1 = true → s.tables.binding[j].line.2 = l) ∧
        (s.tables.binding[j].src.1 = true → s.tables.binding[j].src.2 = r.tg.src) ∧
        (s.tables.binding[j].dst.1 = true → s.tables.binding[j].dst.2 = r.tg.dst) ∧
        (s.tables.binding[j].kind.1 = true → s.tables.binding[j].kind.2 = r.tg.kind) ∧
        (s.tables.binding[j].key.1 = true → s.tables.binding[j].key.2 = r.tg.body.headD 0)))) →
    (s.tables.binding[k].disposition = .forward → exec (.takeTelegram l) s =
      .next ((((s.modPort l fun p => { p with buffer := rest }).modBind k fun c =>
          { c with hits := inc16 c.hits }).pushNormal
        (Line.other l) { r.tg with dst := s.tables.binding[k].rewrite.getD r.tg.dst }).modPort l fun p =>
          { p with counters := { p.counters with forwarded := inc32 p.counters.forwarded } })) ∧
    (s.tables.binding[k].disposition = .discard → exec (.takeTelegram l) s = .next ((s.modPort l fun p =>
        { p with buffer := rest, counters := { p.counters with discarded := inc32 p.counters.discarded } }).modBind k
          fun c => { c with hits := inc16 c.hits }))

/-- R152: while the configuration is loaded a telegram for another station passes through unchanged, and a COMMAND for
the own station is answered NOT_READY on the line it came on with its tag and code. -/
def Obligations.TelegramsPassThroughWhileLoading : Prop :=
  ∀ (l : Line) (r : RxTelegram) (rest : List RxTelegram) (s : State), s.held = false → s.loading = true →
    s.SuppliesTold → (s.port l).buffer = r :: rest →
    (r.tg.dst ≠ s.settings.own → exec (.takeTelegram l) s =
      .next (((s.modPort l fun p => { p with buffer := rest }).pushNormal (Line.other l) r.tg).modPort l fun p =>
        { p with counters := { p.counters with forwarded := inc32 p.counters.forwarded } })) ∧
    (∀ tag code args, r.tg.dst = s.settings.own → r.tg.kind = kCommand → r.tg.body = tag :: code :: args →
      exec (.takeTelegram l) s =
        .next ((s.modPort l fun p =>
          { p with buffer := rest, counters := { p.counters with consumed := inc32 p.counters.consumed } }).pushNormal l
            { dst := r.tg.src, src := s.settings.own, kind := kCommandResult, body := [tag, code, 7] }))

/-- R177: a time mark of the control station on the Control line sets the day-time reference where its day time lies
below 86,400,000, and is counted refused otherwise, and where its body is not a day time; a mark of any other line or
source has no effect. Nothing else changes. -/
def Obligations.TimeMarkSetsTheDayTime : Prop :=
  ∀ (l : Line) (src a b c d : Byte) (s : State), s.Working → s.SuppliesTold →
    (l = .control → src = s.settings.control →
      (read32 a b c d < 86400000 → exec (.timeMark l src [a, b, c, d]) s = .next { s with
        modeRec := { s.modeRec with
          dayRef := some (read32 a b c d, s.partTime), marksTaken := inc16 s.modeRec.marksTaken } }) ∧
      (86400000 ≤ read32 a b c d → exec (.timeMark l src [a, b, c, d]) s = .next { s with
        modeRec := { s.modeRec with marksRefused := inc16 s.modeRec.marksRefused } }) ∧
      (∀ body : List Byte, body.length ≠ 4 → exec (.timeMark l src body) s = .next { s with
        modeRec := { s.modeRec with marksRefused := inc16 s.modeRec.marksRefused } })) ∧
    (∀ body : List Byte, ¬(l = .control ∧ src = s.settings.control) → exec (.timeMark l src body) s = .next s)

/-- R147, R148, R149: a BREAKER_CLOSE that a SUPERVISE entry with an active section's breaker role decides. In ACTIVE or
AUTONOMOUS it is consumed and SECTION_CLOSE is carried out in its place: where the section is already LIVE the order is
answered DONE to its source with tag 0, and nothing else changes (that the command unit's counters stand is the model's
choice, log 51); where the close may be made it is made as R11 says. In OBSERVE it is forwarded to the Field line, rewritten
where the entry says so, and counted forwarded, with no answer, and no advisory where SECTION_CLOSE would be answered DONE. -/
def Obligations.SupervisedCloseIsConverted : Prop :=
  ∀ (k : Fin 64) (t : Telegram) (i : SecNo) (s : State), s.Working → s.SuppliesTold →
    s.deciding .control t = some k → s.tables.binding[k].disposition = .supervise →
    s.tables.binding[k].role = some (.breaker (.sec i)) → t.kind = kBreakerClose → t.body = [] →
    (s.secEntry i).active = true →
    (s.mode ≠ .observe → (s.sec i).ctl.state = .live → exec (.supervisedOrder k t) s =
      .next ((s.modPort .control fun p =>
        { p with counters := { p.counters with consumed := inc32 p.counters.consumed } }).pushNormal .control
          { dst := t.src, src := s.settings.own, kind := kCommandResult, body := [0, 0x01, 0] })) ∧
    (s.mode ≠ .observe → (s.sec i).ctl.state = .dead → s.closeAllowed i = true →
      ∃ u : State, exec (.supervisedOrder k t) s = .next u ∧
        (u.sec i).ctl = { (s.sec i).ctl with
          state := .closing, reason := .commandedClose,
          pending := some ⟨.close, .command, none, false, ⟨s.partTime, 1000⟩⟩ } ∧
        s.sameSecsBut u i ∧ u.station = s.station ∧ u.points = s.points ∧ u.incidents = s.incidents ∧
        u.vehicles = s.vehicles ∧ u.background = s.background ∧
        u.fieldPort.urgent = pushUrgent s.fieldPort.urgent
          ⟨.sec i, .close, s.telegram (s.secEntry i).breaker kBreakerClose []⟩) ∧
    (s.mode = .observe → (s.sec i).ctl.state = .live → exec (.supervisedOrder k t) s =
      .next ((s.pushNormal .field { t with dst := s.tables.binding[k].rewrite.getD t.dst }).modPort .control fun p =>
        { p with counters := { p.counters with forwarded := inc32 p.counters.forwarded } }))

/-! ### Feeder measurement and sources -/

/-- R29, R34, R36: one sample of the active source whose interval is not 0. The thermal value moves by the square law,
held between 0 and H_MAX; I_prev and t_prev become the sample's clamped current and its tick. No other section changes. -/
def Obligations.SampleMovesTheThermalValue : Prop :=
  ∀ (i : SecNo) (r : SourceRole) (t1 t0 c1 c0 : Byte) (s : State) (current : Int) (credit : Nat), s.Working →
    (s.secEntry i).active = true → (s.sec i).activeSource = some r →
    (r = .secondary → (s.secEntry i).secondary = true) →
    current = max (-3000) (min 7000 (c1 ++ c0).toInt) →
    (∀ ip tp, (s.sec i).feed.prev = some (ip, tp) → (t1 ++ t0 - tp).toNat ≠ 0 ∧
      credit = if (t1 ++ t0 - tp).toNat ≤ 40 then (t1 ++ t0 - tp).toNat else 40) →
    ((s.sec i).feed.prev = none → credit = 40) →
    ∃ u : State, exec (.sample i r [1, t1, t0, c1, c0]) s = .next u ∧
      ((u.sec i).feed.h : Int) = max 0 (min 1099511627775 ((s.sec i).feed.h +
        (((current.natAbs / 10 : Nat) : Int) * ((current.natAbs / 10 : Nat) : Int) -
          (((s.setOf i).icont / 10 : Nat) : Int) * (((s.setOf i).icont / 10 : Nat) : Int)) * credit)) ∧
      (u.sec i).feed.prev = some (current, t1 ++ t0) ∧ s.sameSecsBut u i ∧ u.background = s.background

/-- R5, R7, R8, R31, R37: in ACTIVE or AUTONOMOUS a sample at or above Imax trips a LIVE section: BREAKER_TRIP is queued,
the trip line asserted, the pending order set with its 200 ms expiry, the state TRIPPING with reason INSTANT. The section
holds no OPEN or HELD incident, so the trip opens one: a record TRIP_INSTANT of the section under the list's next number,
OPEN now with the sample's captured values, CorrWindow as its window and a trip count of 1. No other record that is not
CLOSED leaves the list, and no other section changes. -/
def Obligations.SampleAtImaxTripsTheSection : Prop :=
  ∀ (i : SecNo) (t1 t0 c1 c0 : Byte) (s : State), s.Working → s.mode ≠ .observe → (s.secEntry i).active = true →
    (s.sec i).sel.state = .usingPrimary → (s.sec i).ctl.state = .live → (s.sec i).rcl.phase = .idle →
    (∀ ip tp, (s.sec i).feed.prev = some (ip, tp) → tp ≠ t1 ++ t0) →
    (s.setOf i).imax ≤ (max (-3000) (min 7000 (c1 ++ c0).toInt)).natAbs → s.liveIncident i = none →
    ∃ u : State, exec (.sample i .primary [1, t1, t0, c1, c0]) s = .next u ∧
      (u.sec i).ctl = { (s.sec i).ctl with
        state := .tripping, reason := .instant, tripLine := true, incident := some s.incidents.next,
        pending := some ⟨.trip, .protection, some .instant, true, ⟨s.partTime, 200⟩⟩ } ∧
      (∃ (x : Incident) (c : Captured), x ∈ u.incidents.records ∧ x.number = s.incidents.next ∧ x.kind = .tripInstant ∧
        x.object = .sec i ∧ x.state = .opened ∧ x.opened = s.stamp ∧ x.outcome = none ∧
        x.window = some ⟨s.partTime, s.settings.corrWindow * 100⟩ ∧ x.tripCount = 1 ∧
        x.lastTrip = some (.instant, s.partTime) ∧ x.shots = [] ∧ x.captured = some c ∧
        c.current = some (max (-3000) (min 7000 (c1 ++ c0).toInt)) ∧ c.h = (u.sec i).feed.h ∧
        c.saturated = decide (max (-3000) (min 7000 (c1 ++ c0).toInt) ≠ (c1 ++ c0).toInt)) ∧
      (∀ y ∈ s.incidents.records, y.state ≠ .closed → y.number ≠ s.incidents.next → y ∈ u.incidents.records) ∧
      u.fieldPort.urgent = pushUrgent s.fieldPort.urgent
        ⟨.sec i, .trip, s.telegram (s.secEntry i).breaker kBreakerTrip []⟩ ∧
      s.sameSecsBut u i ∧ u.station = s.station ∧ u.background = s.background

/-- R51, R53, R56, R57, R59: a stale expiry makes the source record stale. Where the source is not the active one, nothing
else changes; where it is the PRIMARY in use and no secondary is configured, the section enters BLIND and a BLIND_SECTION
record is added. The blind expiry makes blind overdue yes: a section that is not LIVE, CLOSING or OPENING keeps its state;
one that is LIVE in ACTIVE or AUTONOMOUS becomes TRIPPING with reason BLIND, its trip order queued and its line asserted. -/
def Obligations.StaleAndBlindExpiries : Prop :=
  ∀ (i : SecNo) (s : State), s.held = false → s.SuppliesTold →
    (∀ r : SourceRole, dueNow s.partTime ((s.sec i).source r).stale = true → (s.sec i).activeSource ≠ some r →
      exec (.staleExpiry i r) s =
        .next (s.modSec i fun x => x.setSource r { last := none, run := 0, fresh := false, stale := none })) ∧
    (dueNow s.partTime (s.sec i).prim.stale = true → (s.sec i).sel.state = .usingPrimary →
      (s.secEntry i).secondary = false → (s.sec i).rcl.phase ≠ .gating →
      ∃ u : State, exec (.staleExpiry i .primary) s = .next u ∧
        (u.sec i).prim = { last := none, run := 0, fresh := false, stale := none } ∧
        (u.sec i).sel = { (s.sec i).sel with
          state := .blind, changes := inc16 (s.sec i).sel.changes, blinds := inc16 (s.sec i).sel.blinds,
          blindSince := some s.partTime, overdue := false,
          blindExpiry := if (s.secEntry i).blindTrip then some ⟨s.partTime, (s.secEntry i).blindTime * 100⟩ else none } ∧
        (u.sec i).feed = { (s.sec i).feed with prev := none, rising := false, unexpRun := 0, revRun := 0 } ∧
        (u.sec i).ctl = (s.sec i).ctl ∧ s.sameSecsBut u i ∧ u.incidents = s.incidents.add
          (s.closedRecord .blindSection (.sec i) none none) ∧
        u.station = s.station ∧ u.points = s.points ∧ u.background = s.background) ∧
    ((s.sec i).sel.state = .blind → dueNow s.partTime (s.sec i).sel.blindExpiry = true →
      (s.sec i).ctl.state.trippable = false → exec (.blindExpiry i) s =
        .next (s.modSec i fun x => { x with sel := { x.sel with blindExpiry := none, overdue := true } })) ∧
    ((s.sec i).sel.state = .blind → dueNow s.partTime (s.sec i).sel.blindExpiry = true →
      (s.sec i).ctl.state = .live → s.mode ≠ .observe → (s.secEntry i).active = true → (s.sec i).rcl.phase = .idle →
      s.liveIncident i = none →
      ∃ u : State, exec (.blindExpiry i) s = .next u ∧ (u.sec i).sel.overdue = true ∧
        (u.sec i).sel.blindExpiry = none ∧
        (u.sec i).ctl = { (s.sec i).ctl with
          state := .tripping, reason := .blind, tripLine := true, incident := some s.incidents.next,
          pending := some ⟨.trip, .protection, some .blind, true, ⟨s.partTime, 200⟩⟩ } ∧
        u.fieldPort.urgent = pushUrgent s.fieldPort.urgent
          ⟨.sec i, .trip, s.telegram (s.secEntry i).breaker kBreakerTrip []⟩ ∧
        s.sameSecsBut u i ∧ u.station = s.station ∧ u.background = s.background)
/-! ### Sections: reports, commands and expiries -/

/-- R3, R13: the end of a commanded close. A CLOSED report confirms it: LIVE with reason COMMANDED_CLOSE and no pending
order. An OPEN report, and the CloseConfirmTime expiry, fail it: DEAD with reason CLOSE_FAILED, and a BREAKER_CLOSE still
in the urgent queue is withdrawn. -/
def Obligations.CommandedCloseEnds : Prop :=
  ∀ (i : SecNo) (o : PendingOrder) (s : State), s.held = false → (s.sec i).ctl.state = .closing →
    (s.sec i).ctl.pending = some o → o.origin = .command →
    (s.loading = false → (s.secEntry i).active = true → s.NotBlindOverdue i →
      ∃ u : State, exec (.breakerState (.sec i) [1]) s = .next u ∧
      (u.sec i).ctl = { (s.sec i).ctl with
        state := .live, reason := .commandedClose, position := .closed, pending := none } ∧
      (u.sec i).rcl = (s.sec i).rcl ∧ s.sameSecsBut u i ∧ u.station = s.station ∧ u.incidents = s.incidents ∧
      u.vehicles = s.vehicles ∧ u.modeRec = s.modeRec ∧ u.fieldPort.urgent = s.fieldPort.urgent ∧
      u.background = s.background) ∧
    (s.loading = false → (s.secEntry i).active = true →
      ∃ u : State, exec (.breakerState (.sec i) [0]) s = .next u ∧
      (u.sec i).ctl = { (s.sec i).ctl with
        state := .dead, reason := .closeFailed, position := .opened, pending := none } ∧
      (u.sec i).rcl = (s.sec i).rcl ∧ s.sameSecsBut u i ∧ u.station = s.station ∧ u.incidents = s.incidents ∧
      u.vehicles = s.vehicles ∧ u.modeRec = s.modeRec ∧
      u.fieldPort.urgent = s.fieldPort.urgent.filter (fun x => !(x.obj == .sec i && x.order == .close)) ∧
      u.background = s.background) ∧
    (s.SuppliesTold → o.expiry.due s.partTime = true → exec (.closeConfirmTimeExpiry i) s = .next
      ((({ s with fieldPort := { s.fieldPort with
            urgent := s.fieldPort.urgent.filter (fun x => !(x.obj == .sec i && x.order == .close)) } } : State).modCtl i
        fun c => { c with state := .dead, reason := .closeFailed, pending := none }).reportSection i))

/-- R3, R16: unsolicited reports. An OPEN report in LIVE outside a sequence makes the section DEAD with reason LOCAL_OPEN;
a CLOSED report in DEAD makes it LIVE with reason LOCAL_CLOSE where the station position is CLOSED, and otherwise records
the position alone. -/
def Obligations.UnsolicitedReportsMoveTheSection : Prop :=
  ∀ (i : SecNo) (s : State), s.Working → (s.secEntry i).active = true → s.NotBlindOverdue i →
    (s.sec i).rcl.phase = .idle →
    ((s.sec i).ctl.state = .live → ∃ u : State, exec (.breakerState (.sec i) [0]) s = .next u ∧
      (u.sec i).ctl = { (s.sec i).ctl with state := .dead, reason := .localOpen, position := .opened } ∧
      s.sameSecsBut u i ∧ u.station = s.station ∧ u.incidents = s.incidents ∧ u.background = s.background) ∧
    ((s.sec i).ctl.state = .dead → s.station.position = .closed →
      ∃ u : State, exec (.breakerState (.sec i) [1]) s = .next u ∧
      (u.sec i).ctl = { (s.sec i).ctl with state := .live, reason := .localClose, position := .closed } ∧
      s.sameSecsBut u i ∧ u.station = s.station ∧ u.incidents = s.incidents ∧ u.background = s.background) ∧
    ((s.sec i).ctl.state = .dead → s.station.position ≠ .closed →
      ∃ u : State, exec (.breakerState (.sec i) [1]) s = .next u ∧
      (u.sec i).ctl = { (s.sec i).ctl with position := .closed } ∧
      s.sameSecsBut u i ∧ u.station = s.station ∧ u.incidents = s.incidents ∧ u.background = s.background)

/-- R9, R67, R68: an OPEN report for a section TRIPPING from protection, whose current incident is OPEN or HELD, confirms
the trip: the line is released, the pending order cleared, the position OPEN. With the station position not CLOSED the
section becomes DEAD with reason STATION_OPEN, its incident closes STATION_OPEN, and a sequence it was in is cancelled, the
shot count and the incident number going with it (a section in none keeps its number; log 14). With the position CLOSED, in
ACTIVE with a shot left in its program, it becomes WAITING for the next shot, whose dead time starts now: the hold base is
the time of the incident's last trip, and the six gates are recorded as they stand. -/
def Obligations.TripConfirmedByAReport : Prop :=
  ∀ (i : SecNo) (o : PendingOrder) (r : Incident) (s : State), s.Working → (s.secEntry i).active = true →
    (s.sec i).ctl.state = .tripping → (s.sec i).ctl.pending = some o → o.origin = .protection →
    s.liveIncident i = some r →
    (s.station.position ≠ .closed → ∃ u : State, exec (.breakerState (.sec i) [0]) s = .next u ∧
      (u.sec i).ctl = { (s.sec i).ctl with
        state := .dead, reason := .stationOpen, position := .opened, pending := none, tripLine := false,
        incident := if (s.sec i).rcl.phase = .idle then (s.sec i).ctl.incident else none } ∧
      (u.sec i).rcl.phase = .idle ∧
      (u.sec i).rcl.shots = (if (s.sec i).rcl.phase = .idle then (s.sec i).rcl.shots else 0) ∧
      u.incidents = s.closedList r.number .stationOpen ∧ u.vehicles = s.uncounted r ∧
      s.sameSecsBut u i ∧ u.station = s.station ∧ u.background = s.background) ∧
    (∀ (k : Fin 4) (x : Shot) (t : TripKind × PartTime), s.station.position = .closed → s.mode = .active →
      o.kind ≠ some .blind → (s.secEntry i).program = some k →
      s.tables.programs[k].shots[(s.sec i).rcl.shots]? = some x → r.lastTrip = some t →
      ∃ u : State, exec (.breakerState (.sec i) [0]) s = .next u ∧
      (u.sec i).ctl = { (s.sec i).ctl with
        state := .waiting, reason := .shot, position := .opened, pending := none, tripLine := false } ∧
      (u.sec i).rcl = { (s.sec i).rcl with
        phase := .gating, nextShot := some ((s.sec i).rcl.shots + 1), dead := some ⟨s.partTime, x.dead * 100⟩,
        tripKind := o.kind, holdBase := some t.2, hold := some ⟨t.2, s.settings.holdLimit * 1000⟩, holdOverdue := false,
        gates := ⟨false, r.state != .opened, r.vehicles.all fun a => s.polesDownOrGone a.vehicle, s.belowHalf i,
          (s.sec i).sel.state != .blind, s.station.state == .closed⟩ } ∧
      s.sameSecsBut u i ∧ u.station = s.station ∧ u.incidents = s.incidents ∧ u.background = s.background)

/-- R5, R6, R11: SECTION_CLOSE from the control station makes its checks in order, and the first that fails is answered
and changes nothing else. Where none fails, BREAKER_CLOSE is queued, the section is CLOSING, and its report and the answer
ACCEPTED are queued, the report first by the model's order of an event's telegrams (log 12); nothing else changes. -/
def Obligations.SectionCloseIsOrdered : Prop :=
  ∀ (r : Req) (n : Byte) (i : SecNo) (s : State) (res : Result), s.Working → s.SuppliesTold → s.mayCommand r = true →
    secOf n.toNat = some i →
    res = (if (s.secEntry i).active = false then .refusedState
      else if (s.sec i).ctl.state = .live then .done
      else if (s.sec i).ctl.state ≠ .dead then .refusedState
      else if s.station.state ≠ .closed ∨ (s.sec i).sel.state = .blind ∨
        (s.setOf i).thermalLimit * 500000 ≤ (s.sec i).feed.h then .refusedInterlock
      else if s.mode = .observe then .refusedState
      else .accepted) →
    (res ≠ .accepted → exec (.sectionClose r n) s = .next (s.countCommand.answerCommand r 0x01 res)) ∧
    (res = .accepted → s.station.position = .closed → exec (.sectionClose r n) s = .next
      (((({ s.countCommand with fieldPort := { s.fieldPort with
            urgent := pushUrgent s.fieldPort.urgent ⟨.sec i, .close, s.telegram (s.secEntry i).breaker kBreakerClose []⟩ } } :
          State).modCtl i fun c =>
          { c with state := .closing, reason := .commandedClose,
                   pending := some ⟨.close, .command, none, false, ⟨s.partTime, 1000⟩⟩ }).reportSection i).answerCommand
        r 0x01 .accepted))

/-- R5, R7, R14: SECTION_OPEN of kind OPEN (0) or TRIP (1) for a LIVE section outside a sequence, or a DEAD one whose
breaker is not recorded OPEN, in ACTIVE or AUTONOMOUS: the order is queued, for kind TRIP the line is asserted, and the
section is OPENING with a 200 ms expiry. No other section, no incident and no vehicle changes. -/
def Obligations.SectionOpenIsOrdered : Prop :=
  ∀ (r : Req) (n kind : Byte) (trip : Bool) (i : SecNo) (s : State), s.Working → s.mayCommand r = true →
    secOf n.toNat = some i → kind = (if trip then 1 else 0) → (s.secEntry i).active = true → s.NotBlindOverdue i →
    (s.sec i).ctl.state = .live ∨ (s.sec i).ctl.state = .dead ∧ (s.sec i).ctl.position ≠ .opened →
    (s.sec i).rcl.phase = .idle → s.mode ≠ .observe →
    ∃ u : State, exec (.sectionOpen r n kind) s = .next u ∧
      (u.sec i).ctl = { (s.sec i).ctl with
        state := .opening, reason := if trip then .commandedTrip else .commandedOpen,
        tripLine := trip || (s.sec i).ctl.tripLine,
        pending := some ⟨if trip then .trip else .opening, .command, none, trip, ⟨s.partTime, 200⟩⟩ } ∧
      u.fieldPort.urgent = pushUrgent s.fieldPort.urgent ⟨.sec i, if trip then .trip else .opening,
        s.telegram (s.secEntry i).breaker (if trip then kBreakerTrip else kBreakerOpen) []⟩ ∧
      (u.sec i).feed = (s.sec i).feed ∧ (u.sec i).rcl = (s.sec i).rcl ∧ (u.sec i).sel = (s.sec i).sel ∧
      s.sameSecsBut u i ∧ u.station = s.station ∧ u.incidents = s.incidents ∧ u.vehicles = s.vehicles ∧
      u.modeRec = s.modeRec ∧ u.background = s.background

/-- R14, R15: an OPEN report, or a TRIPPED_LOCAL one, confirms a commanded open: DEAD with reason COMMANDED_OPEN, the line
released where it was asserted for the order. The expiry makes the section LIVE or DEAD by the positions, with reason
OPEN_FAILED, and records a BREAKER_FAILURE with cause OPEN_EXPIRY, without a backup trip. -/
def Obligations.CommandedOpenEnds : Prop :=
  ∀ (i : SecNo) (o : PendingOrder) (s : State), s.Working → (s.secEntry i).active = true → s.NotBlindOverdue i →
    (s.sec i).ctl.state = .opening → (s.sec i).ctl.pending = some o →
    (∀ b : Byte, b = 0 ∨ b = 2 → ∃ u : State, exec (.breakerState (.sec i) [b]) s = .next u ∧
      (u.sec i).ctl = { (s.sec i).ctl with
        state := .dead, reason := .commandedOpen, position := .opened, pending := none,
        tripLine := !o.usesLine && (s.sec i).ctl.tripLine } ∧
      s.sameSecsBut u i ∧ u.station = s.station ∧ u.incidents = s.incidents ∧ u.background = s.background) ∧
    (o.expiry.due s.partTime = true → ∃ u : State, exec (.sectionOpenExpiry i) s = .next u ∧
      (u.sec i).ctl = { (s.sec i).ctl with
        state := if (s.sec i).ctl.position = .closed ∧ s.station.position = .closed then .live else .dead,
        reason := .openFailed, pending := none, tripLine := !o.usesLine && (s.sec i).ctl.tripLine } ∧
      s.sameSecsBut u i ∧ u.station = s.station ∧
      u.incidents = s.incidents.add (s.closedRecord .breakerFailure (.sec i) (some (.cause .openExpiry)) none) ∧
      u.background = s.background)

/-- R7, R18, R21: the TripConfirmTime expiry of a section TRIPPING, whose current incident is OPEN or HELD, in ACTIVE or
AUTONOMOUS, with the station CLOSED and no section GATING: the section is LOCKED_OUT with reason BREAKER_FAILURE, its line,
its shot count and its incident number as they were; the incident closes LOCKED_OUT and a BREAKER_FAILURE with cause
TRIP_EXPIRY is recorded; and the station's backup trip begins, its order queued and its line asserted. -/
def Obligations.TripExpiryIsABreakerFailure : Prop :=
  ∀ (i : SecNo) (o : PendingOrder) (r : Incident) (s : State), s.held = false → (s.sec i).ctl.state = .tripping →
    (s.sec i).ctl.pending = some o → o.expiry.due s.partTime = true → s.mode ≠ .observe → s.station.state = .closed →
    s.station.position = .closed → s.tables.station.active = true → s.liveIncident i = some r →
    (∀ j : SecNo, (s.sec j).rcl.phase ≠ .gating) →
    ∃ u : State, exec (.sectionTripExpiry i) s = .next u ∧
      (u.sec i).ctl = { (s.sec i).ctl with
        state := .lockedOut, reason := .breakerFailure, pending := none, former := none } ∧
      (u.sec i).rcl.phase = .idle ∧ (u.sec i).rcl.shots = (s.sec i).rcl.shots ∧
      u.incidents = (s.closedList r.number .lockedOut).add
        (s.closedRecord .breakerFailure (.sec i) (some (.cause .tripExpiry)) none) ∧
      u.vehicles = s.uncounted r ∧
      u.station = { s.station with
        state := .tripping, reason := .backupTrip, tripLine := true,
        pending := some ⟨.trip, .backup, none, true, ⟨s.partTime, 200⟩⟩ } ∧
      u.fieldPort.urgent = pushUrgent s.fieldPort.urgent
        ⟨.station, .trip, s.telegram s.tables.station.breaker kBreakerTrip []⟩ ∧
      s.sameSecsBut u i ∧ u.background = s.background

/-- R24, R78: SECTION_RESET, in every mode. Of a LOCKED_OUT section the line is released, the shot count is 0, the current
incident absent, and the section LIVE where both positions are CLOSED and DEAD otherwise, with reason RESET. Where the
entry is inactive, or in any other state, the answer is REFUSED_STATE and nothing else changes. -/
def Obligations.SectionResetEndsTheLockout : Prop :=
  ∀ (r : Req) (n : Byte) (i : SecNo) (s : State), s.Working → s.mayCommand r = true → secOf n.toNat = some i →
    ((s.secEntry i).active = true → (s.sec i).ctl.state = .lockedOut → s.NotBlindOverdue i →
      ∃ u : State, exec (.sectionReset r n) s = .next u ∧
      (u.sec i).ctl = { (s.sec i).ctl with
        state := if (s.sec i).ctl.position = .closed ∧ s.station.position = .closed then .live else .dead,
        reason := .reset, tripLine := false, incident := none } ∧
      (u.sec i).rcl = { (s.sec i).rcl with shots := 0 } ∧ (u.sec i).feed = (s.sec i).feed ∧
      s.sameSecsBut u i ∧ u.station = s.station ∧ u.incidents = s.incidents ∧ u.vehicles = s.vehicles ∧
      u.fieldPort.urgent = s.fieldPort.urgent ∧ u.background = s.background) ∧
    (s.SuppliesTold → (s.secEntry i).active = false ∨ (s.sec i).ctl.state ≠ .lockedOut →
      exec (.sectionReset r n) s = .next (s.countCommand.answerCommand r 0x03 .refusedState))

/-- R25: SECTION_ISOLATE of a DEAD section with its breaker OPEN, where no ADMITTED vehicle located in it has its poles up
or force is set, and SECTION_RELEASE of an ISOLATED one, in every mode. The section's report stands before the answer by
the model's order of an event's telegrams (log 12). -/
def Obligations.IsolationAndRelease : Prop :=
  ∀ (r : Req) (n force : Byte) (i : SecNo) (s : State), s.Working → s.SuppliesTold → s.mayCommand r = true →
    secOf n.toNat = some i → (s.secEntry i).active = true →
    ((s.sec i).ctl.state = .dead → (s.sec i).ctl.position = .opened → force = 0 ∧ s.polesUpIn i = false ∨ force = 1 →
      exec (.sectionIsolate r n force) s = .next (((s.countCommand.modCtl i fun c =>
        { c with state := .isolated,
                 reason := if force = 1 ∧ s.polesUpIn i = true then .isolatedForced else .isolated }).reportSection
          i).answerCommand r 0x04 .done)) ∧
    ((s.sec i).ctl.state = .isolated → exec (.sectionRelease r n) s = .next (((s.countCommand.modCtl i fun c =>
        { c with state := .dead, reason := .released }).reportSection i).answerCommand r 0x05 .done))

/-! ### The station -/

/-- R19, R20: the station position becoming OPEN moves every section that is LIVE, CLOSING, OPENING, WAITING or TESTING to
DEAD with reason STATION_OPEN and no pending order, and leaves every other section; one that was in a reclose sequence
loses its shot count and its current incident with it, and one that was in none keeps both (R79; log 14). A CLOSED station
becomes OPEN with reason LOCAL_OPEN. The position becoming CLOSED by a local close makes LIVE, with reason STATION_CLOSED, every active DEAD
section whose breaker position is CLOSED, and leaves every other section, none being GATING or BLIND and overdue. -/
def Obligations.StationPositionMovesTheSections : Prop :=
  ∀ s : State, s.Working →
    (s.Lawful → s.station.state = .closed → s.station.position = .closed →
      ∃ u : State, exec (.breakerState .station [0]) s = .next u ∧
      u.station = { s.station with state := .opened, reason := .localOpen, position := .opened } ∧
      (∀ i : SecNo, (s.sec i).ctl.state ∈ [.live, .closing, .opening, .waiting, .testing] →
        (u.sec i).ctl.state = .dead ∧ (u.sec i).ctl.reason = .stationOpen ∧ (u.sec i).ctl.pending = none ∧
        (u.sec i).ctl.incident = (if (s.sec i).rcl.phase = .idle then (s.sec i).ctl.incident else none) ∧
        (u.sec i).rcl.phase = .idle ∧
        (u.sec i).rcl.shots = (if (s.sec i).rcl.phase = .idle then (s.sec i).rcl.shots else 0)) ∧
      (∀ i : SecNo, (s.sec i).ctl.state ∉ [.live, .closing, .opening, .waiting, .testing] → u.sec i = s.sec i) ∧
      u.modeRec = s.modeRec ∧ u.background = s.background) ∧
    (s.station.state = .opened → s.station.position ≠ .closed →
      (∀ i : SecNo, s.NotBlindOverdue i ∧ (s.sec i).rcl.phase ≠ .gating) →
      ∃ u : State, exec (.breakerState .station [1]) s = .next u ∧
      u.station = { s.station with state := .closed, reason := .localClose, position := .closed } ∧
      (∀ i : SecNo, u.sec i =
        if (s.secEntry i).active = true ∧ (s.sec i).ctl.state = .dead ∧ (s.sec i).ctl.position = .closed then
          { s.sec i with ctl := { (s.sec i).ctl with state := .live, reason := .stationClosed } }
        else s.sec i) ∧
      u.incidents = s.incidents ∧ u.vehicles = s.vehicles ∧ u.modeRec = s.modeRec ∧ u.background = s.background)

/-- R22: STATION_CLOSE of an OPEN active station: while a section LOCKED_OUT for breaker failure holds its trip line the
answer is REFUSED_INTERLOCK and nothing else changes. With no such section, in ACTIVE or AUTONOMOUS, no section GATING,
BREAKER_CLOSE is queued and the station is CLOSING with a 1000 ms expiry; nothing else changes but the report and the
answer, in this order by the model's choice (log 12). -/
def Obligations.StationCloseIsOrdered : Prop :=
  ∀ (r : Req) (s : State), s.Working → s.SuppliesTold → s.mayCommand r = true → s.tables.station.active = true →
    s.station.state = .opened →
    ((∃ i : SecNo, (s.sec i).ctl.state = .lockedOut ∧ (s.sec i).ctl.reason = .breakerFailure ∧
        (s.sec i).ctl.tripLine = true) →
      exec (.stationClose r) s = .next (s.countCommand.answerCommand r 0x06 .refusedInterlock)) ∧
    ((∀ i : SecNo, ¬((s.sec i).ctl.state = .lockedOut ∧ (s.sec i).ctl.reason = .breakerFailure ∧
        (s.sec i).ctl.tripLine = true) ∧ (s.sec i).rcl.phase ≠ .gating) → s.mode ≠ .observe →
      exec (.stationClose r) s = .next
        ((({ s.countCommand with
            fieldPort := { s.fieldPort with
              urgent := pushUrgent s.fieldPort.urgent ⟨.station, .close, s.telegram s.tables.station.breaker kBreakerClose []⟩ },
            station := { s.station with
              state := .closing, reason := .commandedClose,
              pending := some ⟨.close, .command, none, false, ⟨s.partTime, 1000⟩⟩ } } : State).reportStation).answerCommand
          r 0x06 .accepted))

/-- R22, R188: STATION_OPEN of kind OPEN (0) or TRIP (1). In ACTIVE or AUTONOMOUS a CLOSED or CLOSING active station takes
it, no section GATING: the order is queued, for kind TRIP the station line is asserted, and the station is TRIPPING with a
200 ms expiry; nothing else changes but the report and the answer, in this order by the model's choice (log 12). A station
OPEN with position OPEN answers DONE. In any other case, in OBSERVE, and where the entry is inactive, the answer is
REFUSED_STATE. Neither answer changes anything else. -/
def Obligations.StationOpenIsOrdered : Prop :=
  ∀ (r : Req) (kind : Byte) (trip : Bool) (s : State) (res : Result), s.Working → s.SuppliesTold →
    s.mayCommand r = true → kind = (if trip then 1 else 0) →
    res = (if s.tables.station.active = false ∨ s.mode = .observe then .refusedState
      else if s.station.state = .closed ∨ s.station.state = .closing then .accepted
      else if s.station.state = .opened ∧ s.station.position = .opened then .done
      else .refusedState) →
    (res ≠ .accepted → exec (.stationOpen r kind) s = .next (s.countCommand.answerCommand r 0x07 res)) ∧
    (res = .accepted → (∀ i : SecNo, (s.sec i).rcl.phase ≠ .gating) → exec (.stationOpen r kind) s = .next
      ((({ s.countCommand with
          fieldPort := { s.fieldPort with
            urgent := pushUrgent s.fieldPort.urgent ⟨.station, if trip then .trip else .opening,
              s.telegram s.tables.station.breaker (if trip then kBreakerTrip else kBreakerOpen) []⟩ },
          station := { s.station with
            state := .tripping, reason := if trip then .commandedTrip else .commandedOpen,
            tripLine := trip || s.station.tripLine,
            pending := some ⟨if trip then .trip else .opening, .command, none, trip, ⟨s.partTime, 200⟩⟩ } } :
        State).reportStation).answerCommand r 0x07 .accepted))

/-- R23: STATION_RESET, in every mode. In FAILED the station becomes CLOSED where its position is CLOSED and OPEN where it
is OPEN or UNKNOWN, with reason RESET and its own line released; the section lines are not touched (a section that is
GATING has its gates judged anew by R69, so none is). The report stands before the answer by the model's order (log 12).
In any other station state the answer is REFUSED_STATE and nothing changes. -/
def Obligations.StationResetRecoversFromFailed : Prop :=
  ∀ (r : Req) (s : State), s.Working → s.SuppliesTold → s.mayCommand r = true →
    (s.station.state = .failed → (∀ i : SecNo, (s.sec i).rcl.phase ≠ .gating) →
      exec (.stationReset r) s = .next
        ((({ s.countCommand with station := { s.station with
            state := if s.station.position = .closed then .closed else .opened, reason := .reset,
            tripLine := false } } : State).reportStation).answerCommand r 0x08 .done)) ∧
    (s.station.state ≠ .failed →
      exec (.stationReset r) s = .next (s.countCommand.answerCommand r 0x08 .refusedState))

/-- R19, R21, R22: the expiries of the station's orders, no section GATING. A commanded close fails: OPEN with reason
CLOSE_FAILED, a station BREAKER_CLOSE still in the urgent queue withdrawn, and nothing else but the report. A commanded
open fails without a failure state: CLOSED or OPEN by the position, reason OPEN_FAILED, the line released where the order
used it, a BREAKER_FAILURE recorded. A backup trip fails the station: FAILED, every trip line as it was, a STATION_FAILURE
recorded. -/
def Obligations.StationExpiriesFailTheOrder : Prop :=
  ∀ (o : PendingOrder) (s : State), s.held = false → s.SuppliesTold → s.station.pending = some o →
    o.expiry.due s.partTime = true → (∀ i : SecNo, (s.sec i).rcl.phase ≠ .gating) →
    (s.station.state = .closing → o.origin = .command → exec .stationCloseExpiry s = .next
      ({ s with
        fieldPort := { s.fieldPort with
          urgent := s.fieldPort.urgent.filter (fun x => !(x.obj == .station && x.order == .close)) },
        station := { s.station with state := .opened, reason := .closeFailed, pending := none } } : State).reportStation) ∧
    (s.station.state = .tripping → o.origin = .command → ∃ u : State, exec .stationOpenExpiry s = .next u ∧
      u.station = { s.station with
        state := if s.station.position = .closed then .closed else .opened, reason := .openFailed, pending := none,
        tripLine := !o.usesLine && s.station.tripLine } ∧
      u.incidents = s.incidents.add (s.closedRecord .breakerFailure .station (some (.cause .openExpiry)) none) ∧
      u.secs = s.secs ∧ u.points = s.points ∧ u.vehicles = s.vehicles ∧ u.background = s.background) ∧
    (s.station.state = .tripping → o.origin = .backup → ∃ u : State, exec .backupTripExpiry s = .next u ∧
      u.station = { s.station with state := .failed, reason := .failed, pending := none } ∧
      u.incidents = s.incidents.add (s.closedRecord .stationFailure .station none none) ∧
      u.secs = s.secs ∧ u.points = s.points ∧ u.vehicles = s.vehicles ∧ u.background = s.background)
/-! ### Reclosing and incidents -/

/-- R68, R69, R70: the dead-time expiry of a GATING section records gate 1 as holding. With another gate still failing
nothing else changes; with all six holding, a next shot within the limit and without a line test, and the conditions of R5,
the shot begins: its number is the shot count, BREAKER_CLOSE is queued and the section is CLOSING for the shot. -/
def Obligations.DeadTimeExpiryBeginsTheShot : Prop :=
  ∀ (i : SecNo) (s : State), s.held = false → dueNow s.partTime (s.sec i).rcl.dead = true →
    (s.sec i).rcl.phase = .gating → (s.sec i).rcl.holdOverdue = false →
    (s.SuppliesTold → (s.sec i).rcl.gates.window = false ∨ (s.sec i).rcl.gates.vehicles = false ∨
        (s.sec i).rcl.gates.thermal = false ∨ (s.sec i).rcl.gates.source = false ∨ (s.sec i).rcl.gates.station = false →
      exec (.deadTimeExpiry i) s = .next (s.modRcl i fun r =>
        { r with dead := none, gates := { r.gates with deadTime := true } })) ∧
    (∀ n : Nat, (s.sec i).rcl.gates.window = true → (s.sec i).rcl.gates.vehicles = true →
      (s.sec i).rcl.gates.thermal = true → (s.sec i).rcl.gates.source = true → (s.sec i).rcl.gates.station = true →
      (s.sec i).rcl.nextShot = some n → s.exceedsLimit i n = false → (s.shotOf i n).any Shot.test = false →
      (s.sec i).ctl.state = .waiting → s.mode ≠ .observe → s.closeAllowed i = true →
      ∃ u : State, exec (.deadTimeExpiry i) s = .next u ∧
        (u.sec i).ctl = { (s.sec i).ctl with
          state := .closing, reason := .shot, pending := some ⟨.close, .reclose, none, false, ⟨s.partTime, 1000⟩⟩ } ∧
        (u.sec i).rcl = { (s.sec i).rcl with
          shots := n, phase := .closing, nextShot := none, dead := none,
          gates := { (s.sec i).rcl.gates with deadTime := true } } ∧
        u.fieldPort.urgent = pushUrgent s.fieldPort.urgent
          ⟨.sec i, .close, s.telegram (s.secEntry i).breaker kBreakerClose []⟩ ∧
        s.sameSecsBut u i ∧ u.station = s.station ∧ u.incidents = s.incidents ∧ u.background = s.background)

/-- R71, R75, R78, R93: the hold expiry makes hold overdue yes. A GATING section whose gate 3 is failing locks out with
reason VEHICLE_HOLD_EXPIRED: its sequence ends, its shot count and incident number are kept, and its current incident
closes LOCKED_OUT. That the hold base goes with the hold expiry is the model's choice (log 47). In any other phase, or with gate 3 holding, nothing else changes. The reclaim expiry ends the sequence:
shot count 0, IDLE, the current incident absent, and its record closed RECLOSED. A closure lowers the attributed count of
each listed vehicle. No other section changes. -/
def Obligations.HoldAndReclaimExpiries : Prop :=
  ∀ (i : SecNo) (r : Incident) (s : State), s.held = false →
    (s.SuppliesTold → dueNow s.partTime (s.sec i).rcl.hold = true →
      (s.sec i).rcl.phase ≠ .gating ∨ (s.sec i).rcl.gates.vehicles = true →
      exec (.holdExpiry i) s = .next (s.modRcl i fun q => { q with hold := none, holdOverdue := true })) ∧
    (dueNow s.partTime (s.sec i).rcl.hold = true → (s.sec i).rcl.phase = .gating →
      (s.sec i).rcl.gates.vehicles = false → s.liveIncident i = some r →
      ∃ u : State, exec (.holdExpiry i) s = .next u ∧
        (u.sec i).ctl = { (s.sec i).ctl with state := .lockedOut, reason := .vehicleHoldExpired } ∧
        (u.sec i).rcl = { (s.sec i).rcl with
          phase := .idle, nextShot := none, dead := none, holdBase := none, hold := none, holdOverdue := false,
          lineTest := none, reclaim := none } ∧
        u.incidents = s.closedList r.number .lockedOut ∧ u.vehicles = s.uncounted r ∧
        s.sameSecsBut u i ∧ u.station = s.station ∧ u.background = s.background) ∧
    ((s.sec i).rcl.phase = .reclaim → dueNow s.partTime (s.sec i).rcl.reclaim = true → s.liveIncident i = some r →
      ∃ u : State, exec (.reclaimExpiry i) s = .next u ∧
        (u.sec i).ctl = { (s.sec i).ctl with incident := none } ∧
        (u.sec i).rcl = { (s.sec i).rcl with shots := 0, phase := .idle, reclaim := none } ∧
        u.incidents = s.closedList r.number .reclosed ∧ u.vehicles = s.uncounted r ∧
        s.sameSecsBut u i ∧ u.station = s.station ∧ u.background = s.background)

/-- R72, R73, R74: a LINE_TEST_RESULT outside TESTING is recorded as not judged, and nothing else changes. In TESTING a
result of at least TestMin ends the test and the close of the shot is asked for. A result of NO_RESULT (0xFFFF) or below
TestMin, and the line-test expiry, fail the shot in ACTIVE and AUTONOMOUS: the current incident receives its shot entry
TEST_FAILED. With the shot limit reached the section is LOCKED_OUT with reason SHOTS_EXHAUSTED and the incident closes
LOCKED_OUT; so it does with reason VEHICLE_HOLD_EXPIRED where a shot is left, hold overdue is yes and a listed vehicle is
not POLES_DOWN (R71; log 32). Otherwise, in ACTIVE with a shot left, it is WAITING for the next one, whose dead time starts
now, hold base and hold expiry kept. -/
def Obligations.LineTestsAreJudgedInTesting : Prop :=
  ∀ (i : SecNo) (a b : Byte) (s : State), s.Working → (s.secEntry i).active = true →
    (s.SuppliesTold → (s.sec i).rcl.phase ≠ .testing → exec (.lineTestResult (.sec i) [a, b]) s =
      .next (s.modRcl i fun r => { r with lastTest := some ⟨a ++ b, s.partTime, false⟩ })) ∧
    (∀ p, s.programOf i = some p → (s.sec i).rcl.phase = .testing → (s.sec i).ctl.state = .testing →
      a ++ b ≠ (0xFFFF : BitVec 16) → p.testMin ≤ (a ++ b : BitVec 16).toNat → s.mode ≠ .observe →
      s.closeAllowed i = true →
      ∃ u : State, exec (.lineTestResult (.sec i) [a, b]) s = .next u ∧
        (u.sec i).ctl = { (s.sec i).ctl with
          state := .closing, reason := .shot, pending := some ⟨.close, .reclose, none, false, ⟨s.partTime, 1000⟩⟩ } ∧
        (u.sec i).rcl = { (s.sec i).rcl with
          phase := .closing, lineTest := none, lastTest := some ⟨a ++ b, s.partTime, true⟩ } ∧
        u.fieldPort.urgent = pushUrgent s.fieldPort.urgent
          ⟨.sec i, .close, s.telegram (s.secEntry i).breaker kBreakerClose []⟩ ∧
        s.sameSecsBut u i ∧ u.station = s.station ∧ u.incidents = s.incidents ∧ u.background = s.background) ∧
    (∀ (c : Instr) (r : Incident), (s.sec i).rcl.phase = .testing → s.mode ≠ .observe → s.liveIncident i = some r →
      c = .lineTestResult (.sec i) [a, b] ∧
          (a ++ b = (0xFFFF : BitVec 16) ∨ ∃ p, s.programOf i = some p ∧ (a ++ b : BitVec 16).toNat < p.testMin) ∨
        c = .lineTestExpiry i ∧ dueNow s.partTime (s.sec i).rcl.lineTest = true →
      (∀ why : SecReason, s.limitReached i = true ∧ why = .shotsExhausted ∨
          s.limitReached i = false ∧ (s.sec i).rcl.holdOverdue = true ∧
            (∃ x ∈ r.vehicles, s.polesDownOrGone x.vehicle = false) ∧ why = .vehicleHoldExpired →
        ∃ u : State, exec c s = .next u ∧
        (u.sec i).ctl = { (s.sec i).ctl with state := .lockedOut, reason := why } ∧
        (u.sec i).rcl.phase = .idle ∧ (u.sec i).rcl.shots = (s.sec i).rcl.shots ∧ (u.sec i).rcl.lineTest = none ∧
        (u.sec i).rcl.hold = none ∧ u.vehicles = s.uncounted r ∧
        u.incidents = ({ s with incidents := s.shotList r.number ((s.sec i).rcl.shots, .testFailed) } :
          State).closedList r.number .lockedOut ∧
        s.sameSecsBut u i ∧ u.station = s.station ∧ u.background = s.background) ∧
      (∀ (k : Fin 4) (x : Shot), s.mode = .active → (s.secEntry i).program = some k →
        s.tables.programs[k].shots[(s.sec i).rcl.shots]? = some x →
        (s.sec i).rcl.holdOverdue = false ∨ (∀ y ∈ r.vehicles, s.polesDownOrGone y.vehicle = true) →
        ∃ u : State, exec c s = .next u ∧
        (u.sec i).ctl = { (s.sec i).ctl with state := .waiting, reason := .shot } ∧
        (u.sec i).rcl.phase = .gating ∧ (u.sec i).rcl.nextShot = some ((s.sec i).rcl.shots + 1) ∧
        (u.sec i).rcl.shots = (s.sec i).rcl.shots ∧ (u.sec i).rcl.lineTest = none ∧
        (u.sec i).rcl.dead = some ⟨s.partTime, x.dead * 100⟩ ∧ (u.sec i).rcl.holdBase = (s.sec i).rcl.holdBase ∧
        (u.sec i).rcl.hold = (s.sec i).rcl.hold ∧
        u.incidents = s.shotList r.number ((s.sec i).rcl.shots, .testFailed) ∧
        s.sameSecsBut u i ∧ u.station = s.station ∧ u.background = s.background))

/-- R69, R91, R96: the window expiry of an OPEN incident makes it HELD and queues INCIDENT_REPORT (WINDOW_CLOSED). Where
the incident is the current one of a GATING section, gate 2 holds from then on; with another gate still failing nothing
else changes (with all six holding the shot begins as R70 says). CLEAR_INCIDENTS removes the CLOSED records and no other,
and answers how many. Nothing else changes. -/
def Obligations.IncidentWindowsAndClearing : Prop :=
  ∀ s : State, s.held = false → s.SuppliesTold →
    (∀ (n : Nat) (r : Incident), s.record? n = some r → r.state = .opened → dueNow s.partTime r.window = true →
      ((∀ i : SecNo, r.object = .sec i → (s.sec i).ctl.incident = some n → (s.sec i).rcl.phase ≠ .gating) →
        exec (.windowExpiry n) s = .next
        (({ s with incidents := { s.incidents with records := s.incidents.records.map fun x =>
            if x.number = n then { x with state := .held, window := none } else x } } : State).pushNormal .control
          (s.report kIncidentReport (Incident.reportBody { r with state := .held, window := none } .windowClosed)))) ∧
      (∀ i : SecNo, r.object = .sec i → (s.sec i).ctl.incident = some n → (s.sec i).rcl.phase = .gating →
        (s.sec i).rcl.holdOverdue = false ∨ (s.sec i).rcl.gates.vehicles = true →
        (s.sec i).rcl.gates.deadTime = false ∨ (s.sec i).rcl.gates.vehicles = false ∨
          (s.sec i).rcl.gates.thermal = false ∨ (s.sec i).rcl.gates.source = false ∨
          (s.sec i).rcl.gates.station = false →
        exec (.windowExpiry n) s = .next
        ((({ s with incidents := { s.incidents with records := s.incidents.records.map fun x =>
            if x.number = n then { x with state := .held, window := none } else x } } : State).modRcl i fun q =>
              { q with gates := { q.gates with window := true } }).pushNormal .control
          (s.report kIncidentReport (Incident.reportBody { r with state := .held, window := none } .windowClosed))))) ∧
    (∀ r : Req, s.loading = false → s.mayManage r = true → exec (.clearIncidents r) s = .next
      (({ s.countRequest with incidents := { s.incidents with
          records := s.incidents.records.filter fun x => x.state != .closed } } : State).answerRequest r 0x09 .done
        [BitVec.ofNat 8 (s.incidents.records.filter fun x => x.state == .closed).length]))

/-! ### Vehicles -/

/-- R100, R101, R103, R105: a VEHICLE_STATUS without faults. Of an unknown vehicle, with a place free and AdmitReports 2,
it adds a PROVISIONAL entry whose admission expiry runs, and nothing else changes. Of a PROVISIONAL vehicle it admits the
entry: its silence expiry runs, its state is the one reported, and a marker of 1..8 sets its section. -/
def Obligations.VehicleStatusIsTaken : Prop :=
  ∀ (h l m c : Byte) (st : VehState) (s : State), s.Working → vehStateOf c = some st → m.toNat ≤ 8 →
    1 ≤ read16 h l → read16 h l ≤ 9999 →
    (s.SuppliesTold → s.vehicle? (read16 h l) = none → s.vehicles.entries.length < 48 → s.settings.admitReports ≠ 1 →
      exec (.vehicleStatus [h, l, m, c, 0]) s = .next { s with vehicles := { s.vehicles with
        taken := inc16 s.vehicles.taken,
        entries := insertVehicle
          { number := read16 h l, admitted := false, loc := secOf m.toNat, source := .marker, state := st, faults := [],
            lastHeard := s.partTime, admission := some ⟨s.partTime, s.settings.admitInterval * 100⟩, silence := none,
            attributed := 0, lastPoint := none, obstruction := none, lastOrder := none } s.vehicles.entries } }) ∧
    (∀ v : Vehicle, s.vehicle? (read16 h l) = some v → v.admitted = false → v.faults = [] → v.attributed = 0 →
      ∃ u : State, exec (.vehicleStatus [h, l, m, c, 0]) s = .next u ∧
        u.vehicle? (read16 h l) = some { v with
          admitted := true, admission := none, lastHeard := s.partTime, state := st,
          silence := some ⟨s.partTime, s.settings.vehicleSilence * 1000⟩,
          loc := if m = 0 then v.loc else secOf m.toNat, source := if m = 0 then v.source else .marker } ∧
        u.vehicles.taken = inc16 s.vehicles.taken ∧ u.secs = s.secs ∧ u.station = s.station ∧
        u.incidents = s.incidents ∧ u.background = s.background)

/-- R105, R113, R114: the admission expiry removes a PROVISIONAL entry without a report. The silence expiry removes an
ADMITTED one whose attributed count is 0 with VEHICLE_REPORT (REMOVED, SILENCE). VEHICLE_FORGET removes an ADMITTED one
whose attributed count is 0 with its report and answers DONE, the report first by the model's order of an event's telegrams
(log 12), and refuses while it is attributed. Nothing else changes. -/
def Obligations.VehiclesAreRemoved : Prop :=
  ∀ (n : Nat) (v : Vehicle) (s : State), s.held = false → s.SuppliesTold → s.vehicle? n = some v →
    (v.admitted = false → dueNow s.partTime v.admission = true → exec (.admissionExpiry n) s = .next
      { s with vehicles := { s.vehicles with
        entries := s.vehicles.entries.filter fun w => w.number != n,
        provExpiries := inc16 s.vehicles.provExpiries } }) ∧
    (v.admitted = true → v.attributed = 0 → dueNow s.partTime v.silence = true → exec (.silenceExpiry n) s = .next
      (({ s with vehicles := { s.vehicles with
          entries := s.vehicles.entries.filter fun w => w.number != n,
          silenceRemovals := inc16 s.vehicles.silenceRemovals } } : State).pushNormal .control
        (s.report kVehicleReport (v.removedBody .silence)))) ∧
    (∀ (r : Req) (w : BitVec 16), s.loading = false → s.mayCommand r = true → w.toNat = n → 1 ≤ n → n ≤ 9999 →
      v.admitted = true →
      (v.attributed = 0 → exec (.vehicleForget r w) s = .next
        ((({ s.countCommand with vehicles := { s.vehicles with
            entries := s.vehicles.entries.filter fun w => w.number != n } } : State).pushNormal .control
          (s.report kVehicleReport (v.removedBody .forgotten))).answerCommand r 0x0D .done)) ∧
      (0 < v.attributed → exec (.vehicleForget r w) s = .next (s.countCommand.answerCommand r 0x0D .refusedState)))
/-! ### Points -/

/-- R119, R120, R121, R130: POINT_POSITION of an active point. A blade report that does not repeat the candidate becomes
the candidate alone. The second report of the ordered leg in THROWING ends the throw: AT_REST at the leg. FAULT fails the
point: FAILED, FAULT_REPORTED, position UNKNOWN. The throw expiry fails it with TIMEOUT, or SUPPLY_LOST where its supply is
not LIVE, and a POINT_FAILURE is recorded. The request queue is empty in the last three. -/
def Obligations.PointReportsAndThrowExpiry : Prop :=
  ∀ (p : PointNo) (l : Leg) (s : State), s.Working → s.SuppliesTold →
    ((s.pointEntry p).active = true → (s.point p).activity ≠ .failed → (s.point p).candidate ≠ some l.blade →
      exec (.pointPosition p [l.code]) s = .next (s.modPoint p fun x =>
        { x with candidate := some l.blade, counters := { x.counters with reports := inc16 x.counters.reports } })) ∧
    (∀ m : Motion, (s.pointEntry p).active = true → (s.point p).candidate = some l.blade →
      (s.point p).activity = .throwing → (s.point p).motion = some m → m.leg = l → (s.point p).queue = [] →
      exec (.pointPosition p [l.code]) s = .next ((s.modPoint p fun x =>
        { x with position := l.pos, activity := .atRest, motion := none,
                 counters := { x.counters with reports := inc16 x.counters.reports } }).reportPoint p)) ∧
    ((s.pointEntry p).active = true → (s.point p).activity ≠ .failed → (s.point p).queue = [] →
      exec (.pointPosition p [3]) s = .next ((s.modPoint p fun x =>
        { x with activity := .failed, failure := some .faultReported, position := .unknown, candidate := none,
                 motion := none,
                 counters := { x.counters with reports := inc16 x.counters.reports } }).reportPoint p)) ∧
    (∀ m : Motion, (s.point p).activity = .throwing → (s.point p).motion = some m → m.expiry.due s.partTime = true →
      (s.point p).queue = [] → ∃ u : State, exec (.throwExpiry p) s = .next u ∧
        u.point p = { s.point p with
          activity := .failed,
          failure := some (if (s.point p).supplyLive = true then .timeout else .supplyLost),
          position := .unknown, candidate := none, motion := none,
          counters := { (s.point p).counters with failures := inc16 (s.point p).counters.failures } } ∧
        u.incidents = s.incidents.add (s.closedRecord .pointFailure (.point p)
          (some (.point (if (s.point p).supplyLive = true then .timeout else .supplyLost))) none) ∧
        s.samePointsBut u p ∧ u.secs = s.secs ∧ u.station = s.station ∧ u.vehicles = s.vehicles ∧
        u.fieldPort = s.fieldPort ∧ u.background = s.background)

/-- R122, R123: a CONTACT for an active point. APPROACH raises the occupancy up to 3 and is a count error beyond it. CLEAR
without a vehicle number lowers the occupancy; with one it also consumes the granted head of that vehicle, which is not in
the vehicle table. A passage of the other role is counted as a mismatch alone. -/
def Obligations.PassagesMoveTheOccupancy : Prop :=
  ∀ (p : PointNo) (h l : Byte) (s : State), s.Working → s.SuppliesTold → (s.pointEntry p).active = true →
    read16 h l ≤ 9999 →
    ((s.point p).occupancy < 3 → exec (.contact p .approach [1, h, l]) s = .next ((s.modPoint p fun x =>
      { x with occupancy := x.occupancy + 1,
               counters := { x.counters with passages := inc16 x.counters.passages } }).reportPoint p)) ∧
    (3 ≤ (s.point p).occupancy → (s.point p).countError = false →
      exec (.contact p .approach [1, h, l]) s = .next ((s.modPoint p fun x =>
        { x with countError := true,
                 counters := { x.counters with passages := inc16 x.counters.passages } }).reportPoint p)) ∧
    ((s.point p).queue = [] → read16 h l = 0 → 0 < (s.point p).occupancy →
      exec (.contact p .clear [2, h, l]) s = .next ((s.modPoint p fun x =>
        { x with occupancy := x.occupancy - 1,
                 counters := { x.counters with passages := inc16 x.counters.passages } }).reportPoint p)) ∧
    (∀ q : Request, (s.point p).queue = [q] → q.granted ≠ none → q.vehicle = read16 h l →
      s.vehicle? (read16 h l) = none → 0 < (s.point p).occupancy →
      exec (.contact p .clear [2, h, l]) s = .next ((s.modPoint p fun x =>
        { x with occupancy := x.occupancy - 1, queue := [],
                 counters := { x.counters with passages := inc16 x.counters.passages } }).reportPoint p)) ∧
    exec (.contact p .approach [2, h, l]) s = .next
      { s with supervisor := { s.supervisor with roleMismatch := inc16 s.supervisor.roleMismatch } }

/-- R124, R127, R128: a ROUTE_REQUEST is dropped and counted in OBSERVE; in another mode, of a vehicle that has none, it is
added behind the head of a queue of an active point that is not FAILED, and refused QUEUE_FULL where 4 stand in it. The
life expiry of a request behind the head removes it and refuses it EXPIRED. Nothing else changes. -/
def Obligations.RouteRequestsQueueAndExpire : Prop :=
  ∀ (p : PointNo) (l : Leg) (v1 v0 n : Byte) (s : State), s.Working → s.SuppliesTold → pointOf n.toNat = some p →
    1 ≤ read16 v1 v0 → read16 v1 v0 ≤ 9999 →
    (s.mode = .observe → exec (.routeRequest [v1, v0, n, l.code]) s = .next
      { s with supervisor := { s.supervisor with droppedObserve := inc16 s.supervisor.droppedObserve } }) ∧
    (s.mode ≠ .observe → (s.pointEntry p).active = true → (s.point p).activity ≠ .failed →
      (∀ q ∈ (s.point p).queue, q.vehicle ≠ read16 v1 v0) →
      ((s.point p).queue ≠ [] → (s.point p).queue.length < 4 →
        exec (.routeRequest [v1, v0, n, l.code]) s = .next (s.modPoint p fun x =>
          { x with
            queue := x.queue ++ [⟨read16 v1 v0, l, s.partTime, none, ⟨s.partTime, s.settings.requestLife * 1000⟩⟩],
            counters := { x.counters with queued := inc16 x.counters.queued } })) ∧
      (4 ≤ (s.point p).queue.length → s.settings.gateway ≠ 0 →
        exec (.routeRequest [v1, v0, n, l.code]) s = .next ((s.pushNormal .field (s.telegram s.settings.gateway
          kRouteRefuse (be16 (read16 v1 v0) ++ [n, l.code, 1]))).modPoint p fun x =>
            { x with counters := { x.counters with refusals := inc16 x.counters.refusals } }))) ∧
    (∀ (h q : Request) (rest : List Request), (s.point p).queue = h :: rest → h.vehicle ≠ q.vehicle →
      rest.find? (fun x => x.vehicle == q.vehicle) = some q → q.life.due s.partTime = true → s.settings.gateway ≠ 0 →
      exec (.lifeExpiry p q.vehicle) s = .next ((s.pushNormal .field (s.telegram s.settings.gateway
        kRouteRefuse (be16 q.vehicle ++ [n, q.leg.code, 7]))).modPoint p fun x =>
          { x with queue := x.queue.filter fun y => y.vehicle != q.vehicle,
                   counters := { x.counters with refusals := inc16 x.counters.refusals } }))

/-- R129, R133, R134, R135: the commands to an active point whose queue is empty. POINT_SET makes the throw where its
checks pass, in ACTIVE or AUTONOMOUS. POINT_LOCK locks the leg the point lies at, POINT_UNLOCK removes the lock, and
POINT_CLEAR returns a FAILED point to AT_REST at UNKNOWN with occupancy 0 and no obstruction, in every mode. The point's
report stands before the answer by the model's order of an event's telegrams (log 12). -/
def Obligations.PointCommandsAreObeyed : Prop :=
  ∀ (r : Req) (n : Byte) (p : PointNo) (l : Leg) (s : State), s.Working → s.SuppliesTold → s.mayCommand r = true →
    pointOf n.toNat = some p → (s.pointEntry p).active = true → (s.point p).queue = [] →
    ((s.point p).activity = .atRest → (s.point p).position ≠ l.pos → (s.point p).occupancy = 0 →
      (s.point p).countError = false → (s.point p).obstruction = none → (s.point p).supplyLive = true →
      (s.point p).lock = none ∨ (s.point p).lock = some l → s.mode ≠ .observe →
      exec (.pointSet r n l.code) s = .next
        ((((s.countCommand.pushNormal .field (s.telegram (s.pointEntry p).motor kPointThrow [l.code])).modPoint p fun x =>
          { x with
            activity := .throwing, motion := some ⟨l, .control, ⟨s.partTime, (s.pointEntry p).throwTime * 100⟩⟩,
            counters := { x.counters with throws := inc16 x.counters.throws } }).reportPoint p).answerCommand
          r 0x09 .accepted)) ∧
    ((s.point p).activity = .atRest → (s.point p).position = l.pos → (s.point p).lock ≠ some l →
      exec (.pointLock r n l.code) s = .next
        (((s.countCommand.modPoint p fun x => { x with lock := some l }).reportPoint p).answerCommand r 0x0A .done)) ∧
    ((s.point p).lock ≠ none → exec (.pointUnlock r n) s = .next
      (((s.countCommand.modPoint p fun x => { x with lock := none }).reportPoint p).answerCommand r 0x0B .done)) ∧
    ((s.point p).activity = .failed → exec (.pointClear r n) s = .next
      (((s.countCommand.modPoint p fun x =>
        { x with
          occupancy := 0, countError := false, obstruction := none, activity := .atRest, failure := none,
          position := .unknown, candidate := none }).reportPoint p).answerCommand r 0x0C .done))
/-! ### Mode and time -/

/-- R172, R173, R176: SET_MODE ACTIVE in OBSERVE with an active section and control silent no: the mode is ACTIVE, and
every active DEAD section with both positions CLOSED is LIVE with reason MODE_ENTRY. SET_MODE OBSERVE in ACTIVE, with no
section GATING or TESTING and no request queued: the mode is OBSERVE, and nothing else changes. -/
def Obligations.SetModeChangesTheMode : Prop :=
  ∀ (r : Req) (s : State), s.Working → s.mayManage r = true →
    (s.mode = .observe → s.modeRec.silent = false → (∃ i : SecNo, (s.secEntry i).active = true) →
      (∀ i : SecNo, s.NotBlindOverdue i) → ∃ u : State, exec (.setMode r 1) s = .next u ∧
        u.modeRec = { s.modeRec with mode := .active, lastChange := (.setMode, s.partTime) } ∧
        (∀ i : SecNo, u.sec i =
          if (s.secEntry i).active = true ∧ (s.sec i).ctl.state = .dead ∧ (s.sec i).ctl.position = .closed ∧
              s.station.position = .closed then
            { s.sec i with ctl := { (s.sec i).ctl with state := .live, reason := .modeEntry } }
          else s.sec i) ∧
        u.station = s.station ∧ u.incidents = s.incidents ∧ u.vehicles = s.vehicles ∧
        u.fieldPort.urgent = s.fieldPort.urgent ∧ u.background = s.background) ∧
    (s.SuppliesTold → s.mode = .active → (∀ i : SecNo, (s.sec i).rcl.phase ≠ .gating ∧ (s.sec i).rcl.phase ≠ .testing) →
      (∀ p : PointNo, (s.point p).queue = []) → exec (.setMode r 0) s = .next
        (({ s.countRequest with modeRec := { s.modeRec with
            mode := .observe, lastChange := (.setMode, s.partTime) } } : State).answerRequest r 0x05 .done [0]))

/-- R174, R176, R178: the control-silence expiry makes control silent yes; in ACTIVE, with no section GATING, the mode also
becomes AUTONOMOUS and its entry is counted. A day after the day-time reference the reference moves on by a day. Nothing
else changes. -/
def Obligations.SilenceAndDayTime : Prop :=
  ∀ s : State, s.held = false → s.SuppliesTold →
    (s.mode ≠ .active → dueNow s.partTime s.modeRec.silence = true → exec .controlSilenceExpiry s =
      .next { s with modeRec := { s.modeRec with silence := none, silent := true } }) ∧
    (s.mode = .active → dueNow s.partTime s.modeRec.silence = true →
      (∀ i : SecNo, s.NotBlindOverdue i ∧ (s.sec i).rcl.phase ≠ .gating) → exec .controlSilenceExpiry s =
      .next { s with modeRec := { s.modeRec with
        silence := none, silent := true, mode := .autonomous, lastChange := (.controlSilence, s.partTime),
        autonomous := inc16 s.modeRec.autonomous } }) ∧
    (∀ (d : Nat) (t : PartTime), s.modeRec.dayRef = some (d, t) → 86400000 ≤ elapsed s.partTime t →
      exec .dayTimeRollover s =
        .next { s with modeRec := { s.modeRec with dayRef := some (d, t + 86400000) } })

/-! ### Configuration, store and restarts -/

/-- R95, R153, R169, R186, R187: the four reads, with any operands, change nothing but the count of requests and the answer
they queue. READ_STATE of a section answers the asked part of 43 bytes with its number and the number of parts, READ_ENTRY of the binding table the
entry with its counts, READ_COUNTERS of a line its nine counters, and READ_INCIDENT of the newest the first piece of its
head, or FAILED on an empty list. -/
def Obligations.ReadRequestsChangeOnlyTheAnswer : Prop :=
  ∀ (r : Req) (s : State), s.Working → s.SuppliesTold → s.mayManage r = true →
    (∀ (i : SecNo) (n : BitVec 16) (k : Byte), secOf n.toNat = some i → k.toNat * 43 < (s.sectionBytes i).length →
      exec (.readState r 0 n k) s = .next (s.countRequest.answerRequest r 0x01 .done
        ([k, BitVec.ofNat 8 (((s.sectionBytes i).length + 42) / 43)] ++
          ((s.sectionBytes i).drop (k.toNat * 43)).take 43))) ∧
    (∀ (index : Byte) (k : Fin 64), index.toNat = k.val → exec (.readEntry r 0 index) s =
      .next (s.countRequest.answerRequest r 0x02 .done
        (s.tables.binding[k].bytes ++ be16 s.bindCounts[k].hits ++ be16 s.bindCounts[k].rejects))) ∧
    (∀ l : Line, exec (.readCounters r (if l = .field then 0 else 1)) s =
      .next (s.countRequest.answerRequest r 0x06 .done
        ([(s.port l).counters.valid, (s.port l).counters.formats, (s.port l).counters.checks,
          (s.port l).counters.babbles, (s.port l).counters.overruns, (s.port l).counters.forwarded,
          (s.port l).counters.consumed, (s.port l).counters.discarded,
          (s.port l).counters.txDiscards].flatMap be32))) ∧
    (∀ n : BitVec 16, (s.incidents.records = [] → exec (.readIncident r 2 n 0 0) s =
        .next (s.countRequest.answerRequest r 0x08 .failed [])) ∧
      (∀ x, s.incidents.records.getLast? = some x → exec (.readIncident r 2 n 0 0) s =
        .next (s.countRequest.answerRequest r 0x08 .done
          ([0, BitVec.ofNat 8 (((s.incidentHead x).length + 42) / 43)] ++ (s.incidentHead x).take 43)))) ∧
    (∀ (number : BitVec 16) (x y z : Byte),
      (∃ res data, exec (.readState r x number y) s = .next (s.countRequest.answerRequest r 0x01 res data)) ∧
      (∃ res data, exec (.readEntry r x y) s = .next (s.countRequest.answerRequest r 0x02 res data)) ∧
      (∃ res data, exec (.readCounters r x) s = .next (s.countRequest.answerRequest r 0x06 res data)) ∧
      (∃ res data, exec (.readIncident r x number y z) s = .next (s.countRequest.answerRequest r 0x08 res data)))

/-- R150, R188: WRITE_ENTRY of an inactive binding entry takes the entry, inactive as it was, sets its counts to 0 and
answers it as it stands; of an active one it is refused ENTRY_ACTIVE. ENTRY_ACTIVE sets the flag of a binding entry, and
makes a point entry active with its supply read now. Nothing else changes. -/
def Obligations.EntriesAreWrittenAndActivated : Prop :=
  ∀ (r : Req) (index : Byte) (s : State), s.Working → s.SuppliesTold → s.mayManage r = true →
    (∀ (k : Fin 64) (bs : List Byte) (x : Binding), index.toNat = k.val → bs.length = 10 → bindingOf bs = some x →
      (s.tables.binding[k].active = false → exec (.writeEntry r 0 index bs) s = .next
        (({ s.countRequest with
            tables := { s.tables with binding := s.tables.binding.set k { x with active := false } },
            bindCounts := s.bindCounts.set k ⟨0, 0⟩ } : State).answerRequest r 0x03 .done
          (Binding.bytes { x with active := false }))) ∧
      (s.tables.binding[k].active = true → exec (.writeEntry r 0 index bs) s =
        .next (s.countRequest.answerRequest r 0x03 .entryActive [])) ∧
      exec (.entryActive r 0 index 1) s = .next
        (({ s.countRequest with tables := { s.tables with
            binding := s.tables.binding.set k { s.tables.binding[k] with active := true } } } : State).answerRequest
          r 0x04 .done [])) ∧
    (∀ p : PointNo, pointOf index.toNat = some p → (s.pointEntry p).active = false → s.point p = coldPoint →
      exec (.entryActive r 2 index 1) s = .next
        (({ s.countRequest with
            tables := { s.tables with points := s.tables.points.set p { s.tables.points[p] with active := true } },
            points := s.points.set p { coldPoint with
              supplyLive := (s.sec (s.pointEntry p).supply).ctl.state == .live } } : State).answerRequest
          r 0x04 .done []))

/-- R187: CLEAR_COUNTERS sets every counter the part keeps to 0 and answers DONE. -/
def Obligations.ClearCountersZeroesTheCounters : Prop :=
  ∀ (r : Req) (s : State), s.Working → s.SuppliesTold → s.mayManage r = true →
    exec (.clearCounters r) s = .next (({ s with
      fieldPort := { s.fieldPort with counters := ⟨0, 0, 0, 0, 0, 0, 0, 0, 0⟩ },
      controlPort := { s.controlPort with counters := ⟨0, 0, 0, 0, 0, 0, 0, 0, 0⟩ },
      bindCounts := Vector.replicate 64 ⟨0, 0⟩,
      secs := s.secs.map fun x => { x with
        feed := { x.feed with dup := 0, gap := 0, saturated := 0, malformed := 0 },
        sel := { x.sel with changes := 0, blinds := 0 } },
      incidents := { s.incidents with evictions := 0 },
      vehicles := { s.vehicles with
        taken := 0, badNumbers := 0, malformed := 0, provExpiries := 0, replacements := 0, tableFull := 0,
        silenceRemovals := 0, orders := 0, noGateway := 0 },
      points := s.points.map fun x => { x with counters := ⟨0, 0, 0, 0, 0, 0, 0⟩ },
      supervisor := ⟨0, 0, 0, 0, 0⟩,
      modeRec := { s.modeRec with autonomous := 0, marksTaken := 0, marksRefused := 0 },
      commands := ⟨0, 0, 0, 0⟩ } : State).answerRequest r 0x07 .done [])

/-- R191, R193, R194, R195: with no store operation in flight STORE_READ, STORE_WRITE, STORE_SAVE and, in OBSERVE with no
order and no throw in flight, STORE_RELOAD begin their first memory transaction, with its 25 ms expiry, and are answered
later; a save ends by writing the signature. That a reload begins with a read of 2 bytes is the model's choice (log 8).
With one in flight each is answered BUSY. Nothing else changes. -/
def Obligations.StoreOperationsBeginOneAtATime : Prop :=
  ∀ (r : Req) (a : BitVec 16) (n : Byte) (bs : List Byte) (s : State), s.Working → s.SuppliesTold →
    s.mayManage r = true → 1 ≤ n.toNat → n.toNat ≤ 32 → a.toNat + n.toNat ≤ 8192 → bs.length = n.toNat →
    (s.store.op = none →
      exec (.storeRead r a n) s = .next { s.countRequest with store := { s.store with
        op := some .read, requester := some ⟨r, 0x0A⟩,
        trans := some (.read a.toNat n.toNat, ⟨s.partTime, 25⟩) } } ∧
      exec (.storeWrite r a bs) s = .next { s.countRequest with store := { s.store with
        op := some .write, requester := some ⟨r, 0x0B⟩, trans := some (.write a.toNat bs, ⟨s.partTime, 25⟩) } } ∧
      (∃ todo : List Transfer, todo.getLast? = some (.write 0 [0x5B, 0xC7]) ∧
        exec (.storeSave r) s = .next { s.countRequest with store := { s.store with
          op := some (.save todo), requester := some ⟨r, 0x0C⟩,
          trans := some (.write 0 [0, 0], ⟨s.partTime, 25⟩) } }) ∧
      (s.mode = .observe → (∀ i : SecNo, (s.sec i).ctl.state ∉ [.closing, .opening, .tripping]) →
        s.station.state ∉ [.closing, .tripping] → (∀ p : PointNo, (s.point p).activity ≠ .throwing) →
        exec (.storeReload r) s = .next { s.countRequest with store := { s.store with
          op := some (.reload []), requester := some ⟨r, 0x0D⟩,
          trans := some (.read 0 2, ⟨s.partTime, 25⟩) } })) ∧
    (s.store.op ≠ none →
      exec (.storeRead r a n) s = .next (s.countRequest.answerRequest r 0x0A .busy []) ∧
      exec (.storeWrite r a bs) s = .next (s.countRequest.answerRequest r 0x0B .busy []) ∧
      exec (.storeSave r) s = .next (s.countRequest.answerRequest r 0x0C .busy []) ∧
      exec (.storeReload r) s = .next (s.countRequest.answerRequest r 0x0D .busy []))

/-- R191, R193: the memory's answer to a STORE_READ replies its bytes, and to a STORE_WRITE writes them and replies DONE;
the transaction expiry of either replies STORE_TIMEOUT. A write that times out leaves every byte outside its run as it was,
and each byte of its run either as it was or as written; which of the two is a free choice (log 7). Each ends the
operation, and nothing else changes but the model's counter of free choices. -/
def Obligations.StoreTransactionsEndWithAReply : Prop :=
  ∀ (q : Requester) (x : Expiry) (s : State), s.held = false → s.SuppliesTold → s.store.requester = some q →
    (∀ a n, s.store.op = some .read → s.store.trans = some (.read a n, x) →
      exec .storeTransactionAnswer s = .next
        (({ s with store := { s.store with op := none, requester := none, trans := none } } : State).answerRequest
          q.req q.code .done ((List.range n).map fun k => readCell (a + k) s.storeMem)) ∧
      (x.due s.partTime = true → exec .transactionExpiry s = .next
        (({ s with store := { s.store with op := none, requester := none, trans := none } } : State).answerRequest
          q.req q.code .storeTimeout []))) ∧
    (∀ a bs, s.store.op = some .write → s.store.trans = some (.write a bs, x) → Memory.wf s.storeMem = true →
      a + bs.length ≤ 8192 →
      ∃ m : Cells, exec .storeTransactionAnswer s = .next
        (({ s with
            store := { s.store with op := none, requester := none, trans := none }, storeMem := m } : State).answerRequest
          q.req q.code .done []) ∧
        (∀ k, k < bs.length → readCell (a + k) m = bs.getD k 0) ∧
        (∀ y, y < a ∨ a + bs.length ≤ y → readCell y m = readCell y s.storeMem)) ∧
    (∀ a bs, s.store.op = some .write → s.store.trans = some (.write a bs, x) → Memory.wf s.storeMem = true →
      x.due s.partTime = true →
      ∃ m : Cells, exec .transactionExpiry s = .next
        (({ s with
            store := { s.store with op := none, requester := none, trans := none }, storeMem := m,
            freeCount := s.freeCount + 1 } : State).answerRequest q.req q.code .storeTimeout []) ∧
        ∀ y, (y < a ∨ a + bs.length ≤ y → readCell y m = readCell y s.storeMem) ∧
          (readCell y m = readCell y s.storeMem ∨ ∃ k, k < bs.length ∧ y = a + k ∧ readCell y m = bs.getD k 0))

/-- R1, R19, R27, R49, R52, R65, R78, R170, R180: RESTART of kind WARM, with no order, throw or store operation in flight.
The mode, the station, the thermal values and the sections' states stand, but for WAITING and TESTING sections, which are
LOCKED_OUT with reason RESTART; every source record is empty, every selector BLIND, and the command counters are 0. -/
def Obligations.WarmRestartKeepsTheRecords : Prop :=
  ∀ (r : Req) (s : State), s.Working → s.mayManage r = true → s.store.op = none →
    (∀ i : SecNo, (s.sec i).ctl.state ∉ [.closing, .opening, .tripping]) → s.station.state ∉ [.closing, .tripping] →
    (∀ p : PointNo, (s.point p).activity ≠ .throwing) →
    ∃ u : State, exec (.restartWarm r) s = .next u ∧
      u.modeRec = { s.modeRec with
        cause := .warmRequest, tag := some r.tag, autonomous := 0, marksTaken := 0, marksRefused := 0,
        silence := if s.modeRec.silent = true then none
          else some ⟨s.partTime, s.settings.controlSilence * 1000⟩ } ∧
      u.station = { s.station with pending := none } ∧ u.commands = ⟨0, 0, 0, 0⟩ ∧
      (∀ i : SecNo, (u.sec i).ctl = (if (s.sec i).ctl.state ∈ [.waiting, .testing] then
          { (s.sec i).ctl with state := .lockedOut, reason := .restart, pending := none, former := none }
        else { (s.sec i).ctl with pending := none, former := none }) ∧
        (u.sec i).feed.h = (s.sec i).feed.h ∧ (u.sec i).feed.prev = none ∧ (u.sec i).feed.rising = false ∧
        (u.sec i).prim = { last := none, run := 0, fresh := false, stale := none } ∧
        (u.sec i).seco = { last := none, run := 0, fresh := false, stale := none } ∧
        (u.sec i).sel.state = .blind ∧ (u.sec i).rcl.shots = (s.sec i).rcl.shots) ∧
      u.tables = s.tables ∧ u.storeMem = s.storeMem ∧ u.partTime = s.partTime ∧ u.pending = s.pending
end

