-- ==== Sys2Proof/Laws/State.lean ====
section
/-! SUPPORT. What each named update of the state changes and leaves: one lemma per field per update, so that no proof
unfolds a record update; and what the accessors read after an update. -/

namespace Sys2Proof.Machine

open Sys2Proof

/-! ### Fields an update leaves -/

section
variable (s : State) (i : SecNo) (f : Sec → Sec)
@[simp] theorem State.modSec_partTime : (s.modSec i f).partTime = s.partTime := rfl
@[simp] theorem State.modSec_supplyUp : (s.modSec i f).supplyUp = s.supplyUp := rfl
@[simp] theorem State.modSec_resetLine : (s.modSec i f).resetLine = s.resetLine := rfl
@[simp] theorem State.modSec_tables : (s.modSec i f).tables = s.tables := rfl
@[simp] theorem State.modSec_station : (s.modSec i f).station = s.station := rfl
@[simp] theorem State.modSec_incidents : (s.modSec i f).incidents = s.incidents := rfl
@[simp] theorem State.modSec_vehicles : (s.modSec i f).vehicles = s.vehicles := rfl
@[simp] theorem State.modSec_points : (s.modSec i f).points = s.points := rfl
@[simp] theorem State.modSec_supervisor : (s.modSec i f).supervisor = s.supervisor := rfl
@[simp] theorem State.modSec_bindCounts : (s.modSec i f).bindCounts = s.bindCounts := rfl
@[simp] theorem State.modSec_fieldPort : (s.modSec i f).fieldPort = s.fieldPort := rfl
@[simp] theorem State.modSec_controlPort : (s.modSec i f).controlPort = s.controlPort := rfl
@[simp] theorem State.modSec_modeRec : (s.modSec i f).modeRec = s.modeRec := rfl
@[simp] theorem State.modSec_commands : (s.modSec i f).commands = s.commands := rfl
@[simp] theorem State.modSec_store : (s.modSec i f).store = s.store := rfl
@[simp] theorem State.modSec_storeMem : (s.modSec i f).storeMem = s.storeMem := rfl
@[simp] theorem State.modSec_freeCount : (s.modSec i f).freeCount = s.freeCount := rfl
@[simp] theorem State.modSec_pending : (s.modSec i f).pending = s.pending := rfl
end

section
variable (s : State) (p : PointNo) (f : Point → Point)
@[simp] theorem State.modPoint_partTime : (s.modPoint p f).partTime = s.partTime := rfl
@[simp] theorem State.modPoint_supplyUp : (s.modPoint p f).supplyUp = s.supplyUp := rfl
@[simp] theorem State.modPoint_resetLine : (s.modPoint p f).resetLine = s.resetLine := rfl
@[simp] theorem State.modPoint_tables : (s.modPoint p f).tables = s.tables := rfl
@[simp] theorem State.modPoint_secs : (s.modPoint p f).secs = s.secs := rfl
@[simp] theorem State.modPoint_station : (s.modPoint p f).station = s.station := rfl
@[simp] theorem State.modPoint_incidents : (s.modPoint p f).incidents = s.incidents := rfl
@[simp] theorem State.modPoint_vehicles : (s.modPoint p f).vehicles = s.vehicles := rfl
@[simp] theorem State.modPoint_supervisor : (s.modPoint p f).supervisor = s.supervisor := rfl
@[simp] theorem State.modPoint_bindCounts : (s.modPoint p f).bindCounts = s.bindCounts := rfl
@[simp] theorem State.modPoint_fieldPort : (s.modPoint p f).fieldPort = s.fieldPort := rfl
@[simp] theorem State.modPoint_controlPort : (s.modPoint p f).controlPort = s.controlPort := rfl
@[simp] theorem State.modPoint_modeRec : (s.modPoint p f).modeRec = s.modeRec := rfl
@[simp] theorem State.modPoint_commands : (s.modPoint p f).commands = s.commands := rfl
@[simp] theorem State.modPoint_store : (s.modPoint p f).store = s.store := rfl
@[simp] theorem State.modPoint_storeMem : (s.modPoint p f).storeMem = s.storeMem := rfl
@[simp] theorem State.modPoint_freeCount : (s.modPoint p f).freeCount = s.freeCount := rfl
@[simp] theorem State.modPoint_pending : (s.modPoint p f).pending = s.pending := rfl
end

section
variable (s : State) (f : Station → Station)
@[simp] theorem State.modStation_partTime : (s.modStation f).partTime = s.partTime := rfl
@[simp] theorem State.modStation_supplyUp : (s.modStation f).supplyUp = s.supplyUp := rfl
@[simp] theorem State.modStation_resetLine : (s.modStation f).resetLine = s.resetLine := rfl
@[simp] theorem State.modStation_tables : (s.modStation f).tables = s.tables := rfl
@[simp] theorem State.modStation_secs : (s.modStation f).secs = s.secs := rfl
@[simp] theorem State.modStation_incidents : (s.modStation f).incidents = s.incidents := rfl
@[simp] theorem State.modStation_vehicles : (s.modStation f).vehicles = s.vehicles := rfl
@[simp] theorem State.modStation_points : (s.modStation f).points = s.points := rfl
@[simp] theorem State.modStation_supervisor : (s.modStation f).supervisor = s.supervisor := rfl
@[simp] theorem State.modStation_bindCounts : (s.modStation f).bindCounts = s.bindCounts := rfl
@[simp] theorem State.modStation_fieldPort : (s.modStation f).fieldPort = s.fieldPort := rfl
@[simp] theorem State.modStation_controlPort : (s.modStation f).controlPort = s.controlPort := rfl
@[simp] theorem State.modStation_modeRec : (s.modStation f).modeRec = s.modeRec := rfl
@[simp] theorem State.modStation_commands : (s.modStation f).commands = s.commands := rfl
@[simp] theorem State.modStation_store : (s.modStation f).store = s.store := rfl
@[simp] theorem State.modStation_storeMem : (s.modStation f).storeMem = s.storeMem := rfl
@[simp] theorem State.modStation_freeCount : (s.modStation f).freeCount = s.freeCount := rfl
@[simp] theorem State.modStation_pending : (s.modStation f).pending = s.pending := rfl
end

section
variable (s : State) (l : Line) (f : Port → Port)
@[simp] theorem State.modPort_partTime : (s.modPort l f).partTime = s.partTime := by cases l <;> rfl
@[simp] theorem State.modPort_supplyUp : (s.modPort l f).supplyUp = s.supplyUp := by cases l <;> rfl
@[simp] theorem State.modPort_resetLine : (s.modPort l f).resetLine = s.resetLine := by cases l <;> rfl
@[simp] theorem State.modPort_tables : (s.modPort l f).tables = s.tables := by cases l <;> rfl
@[simp] theorem State.modPort_secs : (s.modPort l f).secs = s.secs := by cases l <;> rfl
@[simp] theorem State.modPort_station : (s.modPort l f).station = s.station := by cases l <;> rfl
@[simp] theorem State.modPort_incidents : (s.modPort l f).incidents = s.incidents := by cases l <;> rfl
@[simp] theorem State.modPort_vehicles : (s.modPort l f).vehicles = s.vehicles := by cases l <;> rfl
@[simp] theorem State.modPort_points : (s.modPort l f).points = s.points := by cases l <;> rfl
@[simp] theorem State.modPort_supervisor : (s.modPort l f).supervisor = s.supervisor := by cases l <;> rfl
@[simp] theorem State.modPort_bindCounts : (s.modPort l f).bindCounts = s.bindCounts := by cases l <;> rfl
@[simp] theorem State.modPort_modeRec : (s.modPort l f).modeRec = s.modeRec := by cases l <;> rfl
@[simp] theorem State.modPort_commands : (s.modPort l f).commands = s.commands := by cases l <;> rfl
@[simp] theorem State.modPort_store : (s.modPort l f).store = s.store := by cases l <;> rfl
@[simp] theorem State.modPort_storeMem : (s.modPort l f).storeMem = s.storeMem := by cases l <;> rfl
@[simp] theorem State.modPort_freeCount : (s.modPort l f).freeCount = s.freeCount := by cases l <;> rfl
@[simp] theorem State.modPort_pending : (s.modPort l f).pending = s.pending := by cases l <;> rfl
end

section
variable (s : State) (l : Line) (t : Telegram)
@[simp] theorem State.pushNormal_partTime : (s.pushNormal l t).partTime = s.partTime := by cases l <;> rfl
@[simp] theorem State.pushNormal_supplyUp : (s.pushNormal l t).supplyUp = s.supplyUp := by cases l <;> rfl
@[simp] theorem State.pushNormal_resetLine : (s.pushNormal l t).resetLine = s.resetLine := by cases l <;> rfl
@[simp] theorem State.pushNormal_tables : (s.pushNormal l t).tables = s.tables := by cases l <;> rfl
@[simp] theorem State.pushNormal_secs : (s.pushNormal l t).secs = s.secs := by cases l <;> rfl
@[simp] theorem State.pushNormal_station : (s.pushNormal l t).station = s.station := by cases l <;> rfl
@[simp] theorem State.pushNormal_incidents : (s.pushNormal l t).incidents = s.incidents := by cases l <;> rfl
@[simp] theorem State.pushNormal_vehicles : (s.pushNormal l t).vehicles = s.vehicles := by cases l <;> rfl
@[simp] theorem State.pushNormal_points : (s.pushNormal l t).points = s.points := by cases l <;> rfl
@[simp] theorem State.pushNormal_supervisor : (s.pushNormal l t).supervisor = s.supervisor := by cases l <;> rfl
@[simp] theorem State.pushNormal_bindCounts : (s.pushNormal l t).bindCounts = s.bindCounts := by cases l <;> rfl
@[simp] theorem State.pushNormal_modeRec : (s.pushNormal l t).modeRec = s.modeRec := by cases l <;> rfl
@[simp] theorem State.pushNormal_commands : (s.pushNormal l t).commands = s.commands := by cases l <;> rfl
@[simp] theorem State.pushNormal_store : (s.pushNormal l t).store = s.store := by cases l <;> rfl
@[simp] theorem State.pushNormal_storeMem : (s.pushNormal l t).storeMem = s.storeMem := by cases l <;> rfl
@[simp] theorem State.pushNormal_freeCount : (s.pushNormal l t).freeCount = s.freeCount := by cases l <;> rfl
@[simp] theorem State.pushNormal_pending : (s.pushNormal l t).pending = s.pending := by cases l <;> rfl
end

section
variable (s : State) (f : VehicleTable → VehicleTable)
@[simp] theorem State.modVehicles_partTime : (s.modVehicles f).partTime = s.partTime := rfl
@[simp] theorem State.modVehicles_supplyUp : (s.modVehicles f).supplyUp = s.supplyUp := rfl
@[simp] theorem State.modVehicles_resetLine : (s.modVehicles f).resetLine = s.resetLine := rfl
@[simp] theorem State.modVehicles_tables : (s.modVehicles f).tables = s.tables := rfl
@[simp] theorem State.modVehicles_secs : (s.modVehicles f).secs = s.secs := rfl
@[simp] theorem State.modVehicles_station : (s.modVehicles f).station = s.station := rfl
@[simp] theorem State.modVehicles_incidents : (s.modVehicles f).incidents = s.incidents := rfl
@[simp] theorem State.modVehicles_points : (s.modVehicles f).points = s.points := rfl
@[simp] theorem State.modVehicles_supervisor : (s.modVehicles f).supervisor = s.supervisor := rfl
@[simp] theorem State.modVehicles_bindCounts : (s.modVehicles f).bindCounts = s.bindCounts := rfl
@[simp] theorem State.modVehicles_fieldPort : (s.modVehicles f).fieldPort = s.fieldPort := rfl
@[simp] theorem State.modVehicles_controlPort : (s.modVehicles f).controlPort = s.controlPort := rfl
@[simp] theorem State.modVehicles_modeRec : (s.modVehicles f).modeRec = s.modeRec := rfl
@[simp] theorem State.modVehicles_commands : (s.modVehicles f).commands = s.commands := rfl
@[simp] theorem State.modVehicles_store : (s.modVehicles f).store = s.store := rfl
@[simp] theorem State.modVehicles_storeMem : (s.modVehicles f).storeMem = s.storeMem := rfl
@[simp] theorem State.modVehicles_freeCount : (s.modVehicles f).freeCount = s.freeCount := rfl
@[simp] theorem State.modVehicles_pending : (s.modVehicles f).pending = s.pending := rfl
end

section
variable (s : State) (n : Nat) (f : Incident → Incident)
@[simp] theorem State.modRecord_partTime : (s.modRecord n f).partTime = s.partTime := rfl
@[simp] theorem State.modRecord_supplyUp : (s.modRecord n f).supplyUp = s.supplyUp := rfl
@[simp] theorem State.modRecord_resetLine : (s.modRecord n f).resetLine = s.resetLine := rfl
@[simp] theorem State.modRecord_tables : (s.modRecord n f).tables = s.tables := rfl
@[simp] theorem State.modRecord_secs : (s.modRecord n f).secs = s.secs := rfl
@[simp] theorem State.modRecord_station : (s.modRecord n f).station = s.station := rfl
@[simp] theorem State.modRecord_vehicles : (s.modRecord n f).vehicles = s.vehicles := rfl
@[simp] theorem State.modRecord_points : (s.modRecord n f).points = s.points := rfl
@[simp] theorem State.modRecord_supervisor : (s.modRecord n f).supervisor = s.supervisor := rfl
@[simp] theorem State.modRecord_bindCounts : (s.modRecord n f).bindCounts = s.bindCounts := rfl
@[simp] theorem State.modRecord_fieldPort : (s.modRecord n f).fieldPort = s.fieldPort := rfl
@[simp] theorem State.modRecord_controlPort : (s.modRecord n f).controlPort = s.controlPort := rfl
@[simp] theorem State.modRecord_modeRec : (s.modRecord n f).modeRec = s.modeRec := rfl
@[simp] theorem State.modRecord_commands : (s.modRecord n f).commands = s.commands := rfl
@[simp] theorem State.modRecord_store : (s.modRecord n f).store = s.store := rfl
@[simp] theorem State.modRecord_storeMem : (s.modRecord n f).storeMem = s.storeMem := rfl
@[simp] theorem State.modRecord_freeCount : (s.modRecord n f).freeCount = s.freeCount := rfl
@[simp] theorem State.modRecord_pending : (s.modRecord n f).pending = s.pending := rfl
end

section
variable (s : State) (f : ModeRecord → ModeRecord)
@[simp] theorem State.modMode_partTime : (s.modMode f).partTime = s.partTime := rfl
@[simp] theorem State.modMode_supplyUp : (s.modMode f).supplyUp = s.supplyUp := rfl
@[simp] theorem State.modMode_resetLine : (s.modMode f).resetLine = s.resetLine := rfl
@[simp] theorem State.modMode_tables : (s.modMode f).tables = s.tables := rfl
@[simp] theorem State.modMode_secs : (s.modMode f).secs = s.secs := rfl
@[simp] theorem State.modMode_station : (s.modMode f).station = s.station := rfl
@[simp] theorem State.modMode_incidents : (s.modMode f).incidents = s.incidents := rfl
@[simp] theorem State.modMode_vehicles : (s.modMode f).vehicles = s.vehicles := rfl
@[simp] theorem State.modMode_points : (s.modMode f).points = s.points := rfl
@[simp] theorem State.modMode_supervisor : (s.modMode f).supervisor = s.supervisor := rfl
@[simp] theorem State.modMode_bindCounts : (s.modMode f).bindCounts = s.bindCounts := rfl
@[simp] theorem State.modMode_fieldPort : (s.modMode f).fieldPort = s.fieldPort := rfl
@[simp] theorem State.modMode_controlPort : (s.modMode f).controlPort = s.controlPort := rfl
@[simp] theorem State.modMode_commands : (s.modMode f).commands = s.commands := rfl
@[simp] theorem State.modMode_store : (s.modMode f).store = s.store := rfl
@[simp] theorem State.modMode_storeMem : (s.modMode f).storeMem = s.storeMem := rfl
@[simp] theorem State.modMode_freeCount : (s.modMode f).freeCount = s.freeCount := rfl
@[simp] theorem State.modMode_pending : (s.modMode f).pending = s.pending := rfl
end

section
variable (s : State) (f : StoreRecord → StoreRecord)
@[simp] theorem State.modStore_partTime : (s.modStore f).partTime = s.partTime := rfl
@[simp] theorem State.modStore_supplyUp : (s.modStore f).supplyUp = s.supplyUp := rfl
@[simp] theorem State.modStore_resetLine : (s.modStore f).resetLine = s.resetLine := rfl
@[simp] theorem State.modStore_tables : (s.modStore f).tables = s.tables := rfl
@[simp] theorem State.modStore_secs : (s.modStore f).secs = s.secs := rfl
@[simp] theorem State.modStore_station : (s.modStore f).station = s.station := rfl
@[simp] theorem State.modStore_incidents : (s.modStore f).incidents = s.incidents := rfl
@[simp] theorem State.modStore_vehicles : (s.modStore f).vehicles = s.vehicles := rfl
@[simp] theorem State.modStore_points : (s.modStore f).points = s.points := rfl
@[simp] theorem State.modStore_supervisor : (s.modStore f).supervisor = s.supervisor := rfl
@[simp] theorem State.modStore_bindCounts : (s.modStore f).bindCounts = s.bindCounts := rfl
@[simp] theorem State.modStore_fieldPort : (s.modStore f).fieldPort = s.fieldPort := rfl
@[simp] theorem State.modStore_controlPort : (s.modStore f).controlPort = s.controlPort := rfl
@[simp] theorem State.modStore_modeRec : (s.modStore f).modeRec = s.modeRec := rfl
@[simp] theorem State.modStore_commands : (s.modStore f).commands = s.commands := rfl
@[simp] theorem State.modStore_storeMem : (s.modStore f).storeMem = s.storeMem := rfl
@[simp] theorem State.modStore_freeCount : (s.modStore f).freeCount = s.freeCount := rfl
@[simp] theorem State.modStore_pending : (s.modStore f).pending = s.pending := rfl
end

section
variable (s : State) (f : CommandCounters → CommandCounters)
@[simp] theorem State.modCommands_partTime : (s.modCommands f).partTime = s.partTime := rfl
@[simp] theorem State.modCommands_supplyUp : (s.modCommands f).supplyUp = s.supplyUp := rfl
@[simp] theorem State.modCommands_resetLine : (s.modCommands f).resetLine = s.resetLine := rfl
@[simp] theorem State.modCommands_tables : (s.modCommands f).tables = s.tables := rfl
@[simp] theorem State.modCommands_secs : (s.modCommands f).secs = s.secs := rfl
@[simp] theorem State.modCommands_station : (s.modCommands f).station = s.station := rfl
@[simp] theorem State.modCommands_incidents : (s.modCommands f).incidents = s.incidents := rfl
@[simp] theorem State.modCommands_vehicles : (s.modCommands f).vehicles = s.vehicles := rfl
@[simp] theorem State.modCommands_points : (s.modCommands f).points = s.points := rfl
@[simp] theorem State.modCommands_supervisor : (s.modCommands f).supervisor = s.supervisor := rfl
@[simp] theorem State.modCommands_bindCounts : (s.modCommands f).bindCounts = s.bindCounts := rfl
@[simp] theorem State.modCommands_fieldPort : (s.modCommands f).fieldPort = s.fieldPort := rfl
@[simp] theorem State.modCommands_controlPort : (s.modCommands f).controlPort = s.controlPort := rfl
@[simp] theorem State.modCommands_modeRec : (s.modCommands f).modeRec = s.modeRec := rfl
@[simp] theorem State.modCommands_store : (s.modCommands f).store = s.store := rfl
@[simp] theorem State.modCommands_storeMem : (s.modCommands f).storeMem = s.storeMem := rfl
@[simp] theorem State.modCommands_freeCount : (s.modCommands f).freeCount = s.freeCount := rfl
@[simp] theorem State.modCommands_pending : (s.modCommands f).pending = s.pending := rfl
end

section
variable (s : State) (f : SupervisorCounters → SupervisorCounters)
@[simp] theorem State.modSupervisor_partTime : (s.modSupervisor f).partTime = s.partTime := rfl
@[simp] theorem State.modSupervisor_supplyUp : (s.modSupervisor f).supplyUp = s.supplyUp := rfl
@[simp] theorem State.modSupervisor_resetLine : (s.modSupervisor f).resetLine = s.resetLine := rfl
@[simp] theorem State.modSupervisor_tables : (s.modSupervisor f).tables = s.tables := rfl
@[simp] theorem State.modSupervisor_secs : (s.modSupervisor f).secs = s.secs := rfl
@[simp] theorem State.modSupervisor_station : (s.modSupervisor f).station = s.station := rfl
@[simp] theorem State.modSupervisor_incidents : (s.modSupervisor f).incidents = s.incidents := rfl
@[simp] theorem State.modSupervisor_vehicles : (s.modSupervisor f).vehicles = s.vehicles := rfl
@[simp] theorem State.modSupervisor_points : (s.modSupervisor f).points = s.points := rfl
@[simp] theorem State.modSupervisor_bindCounts : (s.modSupervisor f).bindCounts = s.bindCounts := rfl
@[simp] theorem State.modSupervisor_fieldPort : (s.modSupervisor f).fieldPort = s.fieldPort := rfl
@[simp] theorem State.modSupervisor_controlPort : (s.modSupervisor f).controlPort = s.controlPort := rfl
@[simp] theorem State.modSupervisor_modeRec : (s.modSupervisor f).modeRec = s.modeRec := rfl
@[simp] theorem State.modSupervisor_commands : (s.modSupervisor f).commands = s.commands := rfl
@[simp] theorem State.modSupervisor_store : (s.modSupervisor f).store = s.store := rfl
@[simp] theorem State.modSupervisor_storeMem : (s.modSupervisor f).storeMem = s.storeMem := rfl
@[simp] theorem State.modSupervisor_freeCount : (s.modSupervisor f).freeCount = s.freeCount := rfl
@[simp] theorem State.modSupervisor_pending : (s.modSupervisor f).pending = s.pending := rfl
end

section
variable (s : State) (k : Fin 64) (f : BindCount → BindCount)
@[simp] theorem State.modBind_partTime : (s.modBind k f).partTime = s.partTime := rfl
@[simp] theorem State.modBind_supplyUp : (s.modBind k f).supplyUp = s.supplyUp := rfl
@[simp] theorem State.modBind_resetLine : (s.modBind k f).resetLine = s.resetLine := rfl
@[simp] theorem State.modBind_tables : (s.modBind k f).tables = s.tables := rfl
@[simp] theorem State.modBind_secs : (s.modBind k f).secs = s.secs := rfl
@[simp] theorem State.modBind_station : (s.modBind k f).station = s.station := rfl
@[simp] theorem State.modBind_incidents : (s.modBind k f).incidents = s.incidents := rfl
@[simp] theorem State.modBind_vehicles : (s.modBind k f).vehicles = s.vehicles := rfl
@[simp] theorem State.modBind_points : (s.modBind k f).points = s.points := rfl
@[simp] theorem State.modBind_supervisor : (s.modBind k f).supervisor = s.supervisor := rfl
@[simp] theorem State.modBind_fieldPort : (s.modBind k f).fieldPort = s.fieldPort := rfl
@[simp] theorem State.modBind_controlPort : (s.modBind k f).controlPort = s.controlPort := rfl
@[simp] theorem State.modBind_modeRec : (s.modBind k f).modeRec = s.modeRec := rfl
@[simp] theorem State.modBind_commands : (s.modBind k f).commands = s.commands := rfl
@[simp] theorem State.modBind_store : (s.modBind k f).store = s.store := rfl
@[simp] theorem State.modBind_storeMem : (s.modBind k f).storeMem = s.storeMem := rfl
@[simp] theorem State.modBind_freeCount : (s.modBind k f).freeCount = s.freeCount := rfl
@[simp] theorem State.modBind_pending : (s.modBind k f).pending = s.pending := rfl
end

/-! ### Fields an update sets -/

@[simp] theorem State.modSec_secs (s : State) (i : SecNo) (f : Sec → Sec) :
    (s.modSec i f).secs = s.secs.set i (f s.secs[i]) := rfl
@[simp] theorem State.modPoint_points (s : State) (p : PointNo) (f : Point → Point) :
    (s.modPoint p f).points = s.points.set p (f s.points[p]) := rfl
@[simp] theorem State.modStation_station (s : State) (f : Station → Station) :
    (s.modStation f).station = f s.station := rfl
@[simp] theorem State.modVehicles_vehicles (s : State) (f : VehicleTable → VehicleTable) :
    (s.modVehicles f).vehicles = f s.vehicles := rfl
@[simp] theorem State.modMode_modeRec (s : State) (f : ModeRecord → ModeRecord) :
    (s.modMode f).modeRec = f s.modeRec := rfl
@[simp] theorem State.modStore_store (s : State) (f : StoreRecord → StoreRecord) :
    (s.modStore f).store = f s.store := rfl
@[simp] theorem State.modCommands_commands (s : State) (f : CommandCounters → CommandCounters) :
    (s.modCommands f).commands = f s.commands := rfl
@[simp] theorem State.modSupervisor_supervisor (s : State) (f : SupervisorCounters → SupervisorCounters) :
    (s.modSupervisor f).supervisor = f s.supervisor := rfl
@[simp] theorem State.modPort_field (s : State) (f : Port → Port) :
    (s.modPort .field f).fieldPort = f s.fieldPort := rfl
@[simp] theorem State.modPort_field_control (s : State) (f : Port → Port) :
    (s.modPort .field f).controlPort = s.controlPort := rfl
@[simp] theorem State.modPort_control (s : State) (f : Port → Port) :
    (s.modPort .control f).controlPort = f s.controlPort := rfl
@[simp] theorem State.modPort_control_field (s : State) (f : Port → Port) :
    (s.modPort .control f).fieldPort = s.fieldPort := rfl

/-! ### Accessors after an update -/

/-- The records of a section after a change of a section's records. -/
theorem State.sec_modSec (s : State) (i j : SecNo) (f : Sec → Sec) :
    (s.modSec i f).sec j = if i = j then f (s.sec j) else s.sec j := by
  by_cases h : i = j
  · subst h; simp [State.sec]
  · have h' : (i : Nat) ≠ j := fun e => h (Fin.ext e)
    simp [State.sec, h, h']

@[simp] theorem State.sec_modSec_self (s : State) (i : SecNo) (f : Sec → Sec) :
    (s.modSec i f).sec i = f (s.sec i) := by simp [State.sec_modSec]

theorem State.sec_modSec_of_ne (s : State) {i j : SecNo} (h : i ≠ j) (f : Sec → Sec) :
    (s.modSec i f).sec j = s.sec j := by simp [State.sec_modSec, h]

/-- The record of a point after a change of a point's record. -/
theorem State.point_modPoint (s : State) (p q : PointNo) (f : Point → Point) :
    (s.modPoint p f).point q = if p = q then f (s.point q) else s.point q := by
  by_cases h : p = q
  · subst h; simp [State.point]
  · have h' : (p : Nat) ≠ q := fun e => h (Fin.ext e)
    simp [State.point, h, h']

@[simp] theorem State.point_modPoint_self (s : State) (p : PointNo) (f : Point → Point) :
    (s.modPoint p f).point p = f (s.point p) := by simp [State.point_modPoint]

theorem State.point_modPoint_of_ne (s : State) {p q : PointNo} (h : p ≠ q) (f : Point → Point) :
    (s.modPoint p f).point q = s.point q := by simp [State.point_modPoint, h]

/-- A line's port after a change of a line's port. -/
theorem State.port_modPort (s : State) (l k : Line) (f : Port → Port) :
    (s.modPort l f).port k = if l = k then f (s.port k) else s.port k := by
  cases l <;> cases k <;> simp [State.port]

@[simp] theorem State.port_modPort_self (s : State) (l : Line) (f : Port → Port) :
    (s.modPort l f).port l = f (s.port l) := by simp [State.port_modPort]

/-- Accessors read one field of the state. -/
theorem State.sec_eq (s t : State) (h : s.secs = t.secs) (i : SecNo) : s.sec i = t.sec i := by
  simp [State.sec, h]

theorem State.point_eq (s t : State) (h : s.points = t.points) (p : PointNo) : s.point p = t.point p := by
  simp [State.point, h]

/-! ### Events in progress -/

section
variable (e : Ev) (f : State → State)
@[simp] theorem Ev.mod_s : (e.mod f).s = f e.s := rfl
@[simp] theorem Ev.mod_old : (e.mod f).old = e.old := rfl
@[simp] theorem Ev.mod_vehicleReports : (e.mod f).vehicleReports = e.vehicleReports := rfl
@[simp] theorem Ev.mod_selectorReports : (e.mod f).selectorReports = e.selectorReports := rfl
@[simp] theorem Ev.mod_incidentReports : (e.mod f).incidentReports = e.incidentReports := rfl
@[simp] theorem Ev.mod_serve : (e.mod f).serve = e.serve := rfl
@[simp] theorem Ev.mod_answers : (e.mod f).answers = e.answers := rfl
end

section
variable (e : Ev) (l : Line) (t : Telegram)
@[simp] theorem Ev.answer_s : (e.answer l t).s = e.s := rfl
@[simp] theorem Ev.answer_old : (e.answer l t).old = e.old := rfl
@[simp] theorem Ev.answer_vehicleReports : (e.answer l t).vehicleReports = e.vehicleReports := rfl
@[simp] theorem Ev.answer_selectorReports : (e.answer l t).selectorReports = e.selectorReports := rfl
@[simp] theorem Ev.answer_incidentReports : (e.answer l t).incidentReports = e.incidentReports := rfl
@[simp] theorem Ev.answer_serve : (e.answer l t).serve = e.serve := rfl
@[simp] theorem Ev.answer_answers : (e.answer l t).answers = e.answers ++ [(l, t)] := rfl
end

section
variable (e : Ev) (t : Telegram)
@[simp] theorem Ev.vehicleReport_s : (e.vehicleReport t).s = e.s := rfl
@[simp] theorem Ev.vehicleReport_old : (e.vehicleReport t).old = e.old := rfl
@[simp] theorem Ev.vehicleReport_serve : (e.vehicleReport t).serve = e.serve := rfl
@[simp] theorem Ev.vehicleReport_answers : (e.vehicleReport t).answers = e.answers := rfl
@[simp] theorem Ev.incidentReport_s : (e.incidentReport t).s = e.s := rfl
@[simp] theorem Ev.incidentReport_old : (e.incidentReport t).old = e.old := rfl
@[simp] theorem Ev.incidentReport_serve : (e.incidentReport t).serve = e.serve := rfl
@[simp] theorem Ev.incidentReport_answers : (e.incidentReport t).answers = e.answers := rfl
end

section
variable (s : State)
@[simp] theorem Ev.start_s : (Ev.start s).s = s := rfl
@[simp] theorem Ev.start_old : (Ev.start s).old = s := rfl
@[simp] theorem Ev.start_vehicleReports : (Ev.start s).vehicleReports = [] := rfl
@[simp] theorem Ev.start_selectorReports : (Ev.start s).selectorReports = [] := rfl
@[simp] theorem Ev.start_incidentReports : (Ev.start s).incidentReports = [] := rfl
@[simp] theorem Ev.start_serve : (Ev.start s).serve = [] := rfl
@[simp] theorem Ev.start_answers : (Ev.start s).answers = [] := rfl
end

/-- R126: a head is marked to be served; nothing else changes. -/
@[simp] theorem Ev.serveHead_s (e : Ev) (p : PointNo) : (e.serveHead p).s = e.s := by
  unfold Ev.serveHead; split <;> rfl

@[simp] theorem Ev.serveHead_old (e : Ev) (p : PointNo) : (e.serveHead p).old = e.old := by
  unfold Ev.serveHead; split <;> rfl

end Sys2Proof.Machine
end

