-- ==== Sys2Proof/Laws/Events.lean ====
section
/-! SUPPORT. What the end of an event can do (Machine/Events.lean), said once: an event that leaves no BLIND decision, no
LIVE notice and no head to serve only queues its reports and answers. -/

namespace Sys2Proof.Machine

open Sys2Proof

/-! ### Queuing -/

/-- R166: a telegram is the newest of the queue; the queue never grows past its places. -/
theorem Port.pushNormal_cases (p : Port) (t : Telegram) :
    (p.normal.length < normalPlaces ∧ p.pushNormal t = { p with normal := p.normal ++ [t] }) ∨
    (normalPlaces ≤ p.normal.length ∧ p.pushNormal t = { p with
      normal := p.normal.drop 1 ++ [t], counters := { p.counters with txDiscards := inc32 p.counters.txDiscards } }) := by
  unfold Port.pushNormal
  split
  · exact .inl ⟨‹_›, rfl⟩
  · exact .inr ⟨by omega, rfl⟩

@[simp] theorem Port.pushNormal_besidesNormal (p : Port) (t : Telegram) :
    (p.pushNormal t).besidesNormal = p.besidesNormal := by
  rcases p.pushNormal_cases t with ⟨_, h⟩ | ⟨_, h⟩ <;> rw [h]

/-- R166: queuing keeps the queue within its places. -/
theorem Port.pushNormal_length (p : Port) (t : Telegram) (h : p.normal.length ≤ normalPlaces) :
    (p.pushNormal t).normal.length ≤ normalPlaces := by
  rcases p.pushNormal_cases t with ⟨_, e⟩ | ⟨_, e⟩ <;> rw [e] <;>
    simp only [List.length_append, List.length_drop, List.length_singleton, normalPlaces] at * <;> omega

@[simp] theorem State.port_pushNormal_self (s : State) (l : Line) (t : Telegram) :
    (s.pushNormal l t).port l = (s.port l).pushNormal t := by
  simp [State.pushNormal]

theorem State.port_pushNormal_of_ne (s : State) {l k : Line} (h : l ≠ k) (t : Telegram) :
    (s.pushNormal l t).port k = s.port k := by
  simp [State.pushNormal, State.port_modPort, h]

@[simp] theorem State.pushAll_nil (s : State) (l : Line) : s.pushAll l [] = s := rfl

@[simp] theorem State.pushAll_cons (s : State) (l : Line) (t : Telegram) (ts : List Telegram) :
    s.pushAll l (t :: ts) = (s.pushNormal l t).pushAll l ts := rfl

/-- R165: after an order is taken it stands in the queue, in the place of one for the same breaker object if there was
one, and as the newest otherwise. -/
theorem pushUrgent_cases (q : List UrgentOrder) (o : UrgentOrder) :
    ((∃ x ∈ q, x.obj = o.obj) ∧ pushUrgent q o = q.map fun x => if x.obj = o.obj then o else x) ∨
    ((∀ x ∈ q, x.obj ≠ o.obj) ∧ pushUrgent q o = q ++ [o]) := by
  by_cases h : q.any (fun x => x.obj == o.obj) = true
  · refine .inl ⟨by simpa using h, ?_⟩
    simp only [pushUrgent, h, if_true]
    exact List.map_congr_left fun x _ => by simp
  · refine .inr ⟨by simpa using h, ?_⟩
    simp [pushUrgent, h]

/-! ### The end of an event -/

/-- A walk over the sections that changes nothing. -/
theorem Ev.forSecs_id (e : Ev) (f : Ev → SecNo → Ev) (h : ∀ i, f e i = e) : e.forSecs f = e := by
  unfold Ev.forSecs
  generalize allSecs = l
  induction l with
  | nil => rfl
  | cons a l ih => simp [List.foldl_cons, h a, ih]

/-- A walk over the points that changes nothing. -/
theorem Ev.forPoints_id (e : Ev) (f : Ev → PointNo → Ev) (h : ∀ p, f e p = e) : e.forPoints f = e := by
  unfold Ev.forPoints
  generalize allPoints = l
  induction l with
  | nil => rfl
  | cons a l ih => simp [List.foldl_cons, h a, ih]

/-- R59: no BLIND decision is given where no section that is BLIND and overdue has changed its state, the mode being as
it was. -/
theorem Ev.blindPass_of_quiet (e : Ev) (hm : e.s.mode = e.old.mode)
    (h : ∀ i, (e.s.sec i).ctl.state = (e.old.sec i).ctl.state ∨ e.s.NotBlindOverdue i) : e.blindPass = e := by
  refine e.forSecs_id _ fun i => ?_
  rcases h i with h | h | h <;> simp [hm, h]

/-- R131: no notice is given where every active point has been told. -/
theorem Ev.supplyNotices_of_told (e : Ev) (h : e.s.SuppliesTold) : e.forPoints Ev.supplyNotice = e := by
  refine e.forPoints_id _ fun p => ?_
  unfold Ev.supplyNotice
  by_cases hp : (e.s.pointEntry p).active = true
  · simp [hp, h p hp]
  · simp [hp]

/-- R126: no head is served where none is marked. -/
theorem Ev.serveMarked_of_none (e : Ev) (h : e.serve = []) : e.serveMarked = e := by
  unfold Ev.serveMarked
  exact e.forPoints_id _ fun p => by simp [h]

/-- The end of a quiet event: its reports and its answers are queued, and nothing else changes. -/
theorem Ev.finish_of_quiet (e : Ev) (hm : e.s.mode = e.old.mode)
    (hb : ∀ i, (e.s.sec i).ctl.state = (e.old.sec i).ctl.state ∨ e.s.NotBlindOverdue i)
    (ht : e.s.SuppliesTold) (hs : e.serve = []) :
    e.finish = e.answers.foldl (fun s a => s.pushNormal a.1 a.2) (e.s.pushAll .control e.reports) := by
  unfold Ev.finish Ev.settle
  rw [e.blindPass_of_quiet hm hb, e.supplyNotices_of_told ht, e.serveMarked_of_none hs]

/-! ### The reports of an event -/

theorem filter_allSecs_eq (i : SecNo) : allSecs.filter (fun j => j == i) = [i] := by
  revert i; decide

theorem filter_allPoints_eq (p : PointNo) : allPoints.filter (fun q => q == p) = [p] := by
  revert p; decide

/-- R26: no section changed. -/
theorem Ev.sectionReports_nil (e : Ev) (h : ∀ i, (e.s.sec i).reported = (e.old.sec i).reported)
    (hs : e.selectorReports = []) : e.sectionReports = [] := by
  simp [Ev.sectionReports, h, hs]

/-- R26: one section changed. -/
theorem Ev.sectionReports_single (e : Ev) (i : SecNo) (h : ∀ j, j ≠ i → (e.s.sec j).reported = (e.old.sec j).reported)
    (hi : (e.s.sec i).reported ≠ (e.old.sec i).reported) (hs : e.selectorReports = []) :
    e.sectionReports = [e.s.report kSectionReport (e.s.sectionReportBody i)] := by
  have : (allSecs.filter fun j => (e.s.sec j).reported != (e.old.sec j).reported || e.selectorReports.contains j) =
      allSecs.filter fun j => j == i := by
    refine List.filter_congr fun j _ => ?_
    by_cases hj : j = i
    · subst hj; simp [hs, hi]
    · simp [hs, h j hj, hj]
  rw [Ev.sectionReports, this, filter_allSecs_eq]; rfl

/-- R137: no point changed in a field that is reported. -/
theorem Ev.pointReports_nil (e : Ev) (h : ∀ p, (e.s.point p).reported = (e.old.point p).reported) :
    e.pointReports = [] := by
  simp [Ev.pointReports, h]

/-- R137: one point changed. -/
theorem Ev.pointReports_single (e : Ev) (p : PointNo)
    (h : ∀ q, q ≠ p → (e.s.point q).reported = (e.old.point q).reported)
    (hp : (e.s.point p).reported ≠ (e.old.point p).reported) :
    e.pointReports = [e.s.report kPointReport (e.s.pointReportBody p)] := by
  have : (allPoints.filter fun q => (e.s.point q).reported != (e.old.point q).reported) =
      allPoints.filter fun q => q == p := by
    refine List.filter_congr fun q _ => ?_
    by_cases hq : q = p
    · subst hq; simp [hp]
    · simp [h q hq, hq]
  rw [Ev.pointReports, this, filter_allPoints_eq]; rfl

/-- R26: the station did not change. -/
theorem Ev.stationReports_nil (e : Ev) (h : e.s.station.reported = e.old.station.reported) : e.stationReports = [] := by
  simp [Ev.stationReports, h]

/-- R26: the station changed. -/
theorem Ev.stationReports_one (e : Ev) (h : e.s.station.reported ≠ e.old.station.reported) :
    e.stationReports = [e.s.report kStationReport e.s.stationReportBody] := by
  simp [Ev.stationReports, h]

/-- R26, R137: what an event queues that changed no section, station or point. -/
theorem Ev.reports_nil (e : Ev) (hs : e.s.secs = e.old.secs) (ht : e.s.station = e.old.station)
    (hp : e.s.points = e.old.points) (hv : e.vehicleReports = []) (hsel : e.selectorReports = [])
    (hi : e.incidentReports = []) : e.reports = [] := by
  rw [Ev.reports, hv, hi, e.stationReports_nil (by rw [ht]),
    e.sectionReports_nil (fun i => by simp [State.sec, hs]) hsel,
    e.pointReports_nil (fun p => by simp [State.point, hp])]
  rfl

/-- The end of an event that changed no section, station or point and marked no head: its answers are queued. -/
theorem Ev.finish_of_still (e : Ev) (hm : e.s.mode = e.old.mode) (hs : e.s.secs = e.old.secs)
    (hst : e.s.station = e.old.station) (hp : e.s.points = e.old.points) (ht : e.s.SuppliesTold) (hserve : e.serve = [])
    (hv : e.vehicleReports = []) (hsel : e.selectorReports = []) (hi : e.incidentReports = []) :
    e.finish = e.answers.foldl (fun s a => s.pushNormal a.1 a.2) e.s := by
  rw [e.finish_of_quiet hm (fun i => .inl (by simp [State.sec, hs])) ht hserve,
    e.reports_nil hs hst hp hv hsel hi, State.pushAll_nil]

end Sys2Proof.Machine
end

