-- ==== Sys2Proof/Laws/Memory.lean ====
section
/-! SUPPORT. The contents of the store: every memory operation keeps the canonical form, a read after a write gives the
byte written, and a write leaves every other address alone. -/

namespace Sys2Proof.Machine

open Sys2Proof

/-! ### The canonical form -/

theorem Memory.wfFrom_mono {m n : Nat} (h : m ≤ n) : ∀ {cs : Cells}, Memory.wfFrom n cs = true → Memory.wfFrom m cs = true
  | [], _ => rfl
  | c :: rest, w => by
    simp only [Memory.wfFrom, Bool.and_eq_true, decide_eq_true_eq] at w ⊢
    exact ⟨⟨⟨by omega, w.1.1.2⟩, w.1.2⟩, w.2⟩

/-- Putting a byte at an address of the store keeps the form. -/
theorem Memory.wfFrom_putCell {low a : Nat} {b : Byte} (hl : low ≤ a) (ha : a < storeSize) :
    ∀ {cs : Cells}, Memory.wfFrom low cs = true → Memory.wfFrom low (putCell a b cs) = true := by
  intro cs
  induction cs generalizing low with
  | nil =>
    intro _
    by_cases hb : b = unlisted <;> simp [putCell, Memory.wfFrom, hb, hl, ha]
  | cons c rest ih =>
    intro w
    simp only [Memory.wfFrom, Bool.and_eq_true, decide_eq_true_eq] at w
    obtain ⟨⟨⟨h1, h2⟩, h3⟩, h4⟩ := w
    unfold putCell
    split
    · rename_i hlt
      split
      · simp [Memory.wfFrom, h1, h2, h3, h4]
      · rename_i hb
        have : a + 1 ≤ c.1 := hlt
        simp [Memory.wfFrom, hl, ha, hb, this, h2, h3, h4]
    · split
      · rename_i heq
        split
        · exact Memory.wfFrom_mono (by omega) h4
        · rename_i hb
          subst heq
          simp [Memory.wfFrom, hl, ha, hb, h4]
      · rename_i hlt hne
        have : c.1 + 1 ≤ a := by omega
        simp [Memory.wfFrom, h1, h2, h3, ih this h4]

theorem Memory.wf_writeByte {cs : Cells} (a : Nat) (b : Byte) (h : Memory.wf cs = true) :
    Memory.wf (writeByte cs a b) = true := by
  unfold writeByte
  split
  · exact Memory.wfFrom_putCell (Nat.zero_le _) ‹_› h
  · exact h

theorem Memory.wf_writeRun (bs : List Byte) : ∀ {cs : Cells} (a : Nat), Memory.wf cs = true →
    Memory.wf (writeRun cs a bs) = true := by
  induction bs with
  | nil => intro cs a h; exact h
  | cons b bs ih => intro cs a h; exact ih (a + 1) (Memory.wf_writeByte a b h)

theorem Memory.wf_writeSome (done : Nat → Bool) (bs : List Byte) : ∀ {cs : Cells} (a k : Nat), Memory.wf cs = true →
    Memory.wf (writeSome cs done a k bs) = true := by
  induction bs with
  | nil => intro cs a k h; exact h
  | cons b bs ih =>
    intro cs a k h
    simp only [writeSome]
    split
    · exact ih (a + 1) (k + 1) (Memory.wf_writeByte a b h)
    · exact ih (a + 1) (k + 1) h

/-- The store after reset is in its canonical form. -/
theorem Memory.wf_reset : Memory.wf State.reset.storeMem = true := rfl

/-! ### Reads after writes -/

theorem readCell_of_wfFrom_lt : ∀ {cs : Cells} {low a : Nat}, Memory.wfFrom low cs = true → a < low →
    readCell a cs = unlisted
  | [], _, _, _, _ => rfl
  | c :: rest, low, a, w, h => by
    simp only [Memory.wfFrom, Bool.and_eq_true, decide_eq_true_eq] at w
    have : c.1 ≠ a := by omega
    have hr : readCell a rest = unlisted := readCell_of_wfFrom_lt w.2 (show a < c.1 + 1 by omega)
    simp [readCell, this, hr]

/-- A read after a byte is put: that byte at its address, and every other address as before. -/
theorem readCell_putCell {low a x : Nat} {b : Byte} : ∀ {cs : Cells}, Memory.wfFrom low cs = true →
    readCell x (putCell a b cs) = if x = a then b else readCell x cs := by
  intro cs
  induction cs generalizing low with
  | nil =>
    intro _
    by_cases hx : x = a
    · subst hx; by_cases hb : b = unlisted <;> simp [putCell, readCell, hb]
    · by_cases hb : b = unlisted <;> simp [putCell, readCell, hb, hx, Ne.symm hx]
  | cons c rest ih =>
    intro w
    simp only [Memory.wfFrom, Bool.and_eq_true, decide_eq_true_eq] at w
    obtain ⟨⟨⟨h1, h2⟩, h3⟩, h4⟩ := w
    unfold putCell
    by_cases hlt : a < c.1
    · have hne : c.1 ≠ a := by omega
      have hrest : readCell a rest = unlisted := readCell_of_wfFrom_lt h4 (by omega)
      by_cases hb : b = unlisted
      · by_cases hx : x = a
        · subst hx; simp [hlt, hb, readCell, hne, hrest]
        · simp [hlt, hb, hx]
      · by_cases hx : x = a
        · subst hx; simp [hlt, hb, readCell]
        · simp [hlt, hb, hx, readCell, Ne.symm hx]
    · by_cases heq : a = c.1
      · subst heq
        have hrest : readCell c.1 rest = unlisted := readCell_of_wfFrom_lt h4 (by omega)
        by_cases hb : b = unlisted
        · by_cases hx : x = c.1
          · subst hx; simp [hb, hrest]
          · simp [hb, hx, readCell, Ne.symm hx]
        · by_cases hx : x = c.1
          · subst hx; simp [hb, readCell]
          · simp [hb, hx, readCell, Ne.symm hx]
      · have hca : c.1 ≠ a := fun e => heq e.symm
        simp only [hlt, heq, if_false, readCell]
        by_cases hcx : c.1 = x
        · subst hcx; simp [hca]
        · simp only [hcx, if_false]; exact ih h4

/-- A read after a byte of the store is written. -/
theorem readCell_writeByte {cs : Cells} (h : Memory.wf cs = true) (a x : Nat) (b : Byte) :
    readCell x (writeByte cs a b) = if x = a ∧ a < storeSize then b else readCell x cs := by
  unfold writeByte
  split
  · rename_i ha; simp [readCell_putCell (b := b) h, ha]
  · rename_i ha; simp [ha]

/-- A run that is written leaves every address below it and past its end alone. -/
theorem readCell_writeRun_of_outside (bs : List Byte) : ∀ {cs : Cells} (a x : Nat), Memory.wf cs = true →
    x < a ∨ a + bs.length ≤ x → readCell x (writeRun cs a bs) = readCell x cs := by
  induction bs with
  | nil => intro cs a x _ _; rfl
  | cons b bs ih =>
    intro cs a x h hx
    simp only [List.length_cons] at hx
    rw [writeRun, ih (a + 1) x (Memory.wf_writeByte a b h) (by omega), readCell_writeByte h]
    have : x ≠ a := by omega
    simp [this]

/-- A read inside a run that lies in the store gives the byte written there. -/
theorem readCell_writeRun_of_inside (bs : List Byte) : ∀ {cs : Cells} (a k : Nat), Memory.wf cs = true →
    k < bs.length → a + bs.length ≤ storeSize → readCell (a + k) (writeRun cs a bs) = bs.getD k 0 := by
  induction bs with
  | nil => intro cs a k _ hk; simp at hk
  | cons b bs ih =>
    intro cs a k h hk hs
    simp only [List.length_cons] at hk hs
    cases k with
    | zero =>
      rw [writeRun, readCell_writeRun_of_outside bs (a + 1) (a + 0) (Memory.wf_writeByte a b h) (by omega),
        readCell_writeByte h]
      simp [show a < storeSize by omega]
    | succ k =>
      have := ih (a + 1) k (Memory.wf_writeByte a b h) (by omega) (by omega)
      rw [writeRun, show a + (k + 1) = a + 1 + k by omega, this]
      simp

end Sys2Proof.Machine
end

