-- ==== Sys2Proof/WellFormed.lean ====
section
/-! DEFINITION. Which commands a line, a store or an expiry can bring: bodies of at most 48 bytes (chapter 12, "Framing"),
an entry or a store run within a request's body, vehicle and incident numbers within 00_scope's numbering. `exec` gives
every command a meaning, well formed or not. -/

namespace Sys2Proof

/-- Chapter 12: LEN is 0..48. -/
def bodyFits (body : List Byte) : Bool := body.length ≤ 48

/-- Whether the command is one its source can bring. -/
def Instr.wf : Instr → Bool
  | .telegramReceived _ frame => 7 ≤ frame.length && frame.length ≤ 55
  | .linkOffer _ _ _ body => bodyFits body
  | .idleGap _ n => 2 ≤ n
  | .sample _ _ body => bodyFits body
  | .breakerState _ body => bodyFits body
  | .lineTestResult _ body => bodyFits body
  | .pointPosition _ body => bodyFits body
  | .contact _ _ body => bodyFits body
  | .vehicleStatus body => bodyFits body
  | .routeRequest body => bodyFits body
  | .timeMark _ _ body => bodyFits body
  | .supervisedOrder _ tg => bodyFits tg.body
  | .writeEntry _ _ _ entry => entry.length ≤ 44
  | .storeWrite _ _ bytes => bytes.length ≤ 43
  | .windowExpiry n => 1 ≤ n && n ≤ 65535
  | .admissionExpiry v => 1 ≤ v && v ≤ 9999
  | .silenceExpiry v => 1 ≤ v && v ≤ 9999
  | .lifeExpiry _ v => 1 ≤ v && v ≤ 9999
  | .powerOn | .supplyDip | .resetLineAsserted | .resetLineReleased
  | .babbleCutoff _ | .transmitTelegram _ | .ackOfferEnd _ | .offerExpiry _ | .partnerExpiry _ | .quietExpiry _
  | .takeTelegram _ | .sectionClose _ _ | .sectionOpen _ _ _ | .sectionReset _ _ | .sectionIsolate _ _ _
  | .sectionRelease _ _ | .stationClose _ | .stationOpen _ _ | .stationReset _ | .pointSet _ _ _ | .pointLock _ _ _
  | .pointUnlock _ _ | .pointClear _ _ | .vehicleForget _ _ | .readState _ _ _ _ | .readEntry _ _ _
  | .entryActive _ _ _ _ | .setMode _ _ | .readCounters _ _ | .clearCounters _ | .readIncident _ _ _ _ _
  | .clearIncidents _ | .storeRead _ _ _ | .storeSave _ | .storeReload _ | .restartCold _ | .restartWarm _
  | .storeTransactionAnswer | .transactionExpiry | .closeConfirmTimeExpiry _ | .sectionOpenExpiry _
  | .sectionTripExpiry _ | .stationCloseExpiry | .stationOpenExpiry | .backupTripExpiry | .staleExpiry _ _
  | .blindExpiry _ | .deadTimeExpiry _ | .holdExpiry _ | .lineTestExpiry _ | .reclaimExpiry _ | .throwExpiry _
  | .controlSilenceExpiry | .dayTimeRollover | .byteArrives _ _ | .supplyFailure | .transmitterFree _ => true

end Sys2Proof
end

