-- ==== Sys2Proof/Laws/PerInstr.lean ====
section
/-! SUPPORT. A law of every command as syntax: the bytes a well-formed command carries fit into one telegram on a line
(chapter 12, "Framing": at most 48 body bytes, 55 with the frame). One lemma per command. -/

namespace Sys2Proof.Laws.BytesFit

open Sys2Proof

/-- The bytes a command carries: a frame, a body, an entry or a run; none for a command that carries none. -/
def carried : Instr → List Byte
  | .telegramReceived _ frame => frame
  | .linkOffer _ _ _ body => body
  | .sample _ _ body => body
  | .breakerState _ body => body
  | .lineTestResult _ body => body
  | .pointPosition _ body => body
  | .contact _ _ body => body
  | .vehicleStatus body => body
  | .routeRequest body => body
  | .timeMark _ _ body => body
  | .supervisedOrder _ tg => tg.body
  | .writeEntry _ _ _ entry => entry
  | .storeWrite _ _ bytes => bytes
  | .powerOn | .supplyDip | .resetLineAsserted | .resetLineReleased | .idleGap _ _ | .babbleCutoff _
  | .transmitTelegram _ | .ackOfferEnd _ | .offerExpiry _ | .partnerExpiry _ | .quietExpiry _ | .takeTelegram _
  | .sectionClose _ _ | .sectionOpen _ _ _ | .sectionReset _ _ | .sectionIsolate _ _ _ | .sectionRelease _ _
  | .stationClose _ | .stationOpen _ _ | .stationReset _ | .pointSet _ _ _ | .pointLock _ _ _
  | .pointUnlock _ _ | .pointClear _ _ | .vehicleForget _ _ | .readState _ _ _ _ | .readEntry _ _ _
  | .entryActive _ _ _ _ | .setMode _ _ | .readCounters _ _ | .clearCounters _ | .readIncident _ _ _ _ _
  | .clearIncidents _ | .storeRead _ _ _ | .storeSave _ | .storeReload _ | .restartCold _ | .restartWarm _
  | .storeTransactionAnswer | .transactionExpiry | .closeConfirmTimeExpiry _ | .sectionOpenExpiry _
  | .sectionTripExpiry _ | .stationCloseExpiry | .stationOpenExpiry | .backupTripExpiry | .staleExpiry _ _
  | .blindExpiry _ | .deadTimeExpiry _ | .holdExpiry _ | .lineTestExpiry _ | .reclaimExpiry _ | .windowExpiry _
  | .admissionExpiry _ | .silenceExpiry _ | .lifeExpiry _ _ | .throwExpiry _ | .controlSilenceExpiry
  | .dayTimeRollover | .byteArrives _ _ | .supplyFailure | .transmitterFree _ => []

/-- What is said of a command: if it is well formed, the bytes it carries are at most a frame's 55. -/
def Statement (i : Instr) : Prop := i.wf = true → (carried i).length ≤ 55

/-- A command that carries no bytes. -/
theorem of_nil {i : Instr} (h : carried i = []) : Statement i := fun _ => by simp [h]

theorem powerOn : Statement .powerOn := of_nil rfl
theorem supplyDip : Statement .supplyDip := of_nil rfl
theorem resetLineAsserted : Statement .resetLineAsserted := of_nil rfl
theorem resetLineReleased : Statement .resetLineReleased := of_nil rfl
theorem telegramReceived (line : Line) (frame : List Byte) :
    Statement (.telegramReceived line frame) := fun h => by
  simp [Instr.wf] at h; simp only [carried]; omega
theorem linkOffer (line : Line) (dst src : Byte) (body : List Byte) :
    Statement (.linkOffer line dst src body) := fun h => by
  simp [Instr.wf, bodyFits] at h; simp only [carried]; omega
theorem idleGap (line : Line) (byteTimes : Nat) : Statement (.idleGap line byteTimes) := of_nil rfl
theorem babbleCutoff (line : Line) : Statement (.babbleCutoff line) := of_nil rfl
theorem transmitTelegram (line : Line) : Statement (.transmitTelegram line) := of_nil rfl
theorem ackOfferEnd (line : Line) : Statement (.ackOfferEnd line) := of_nil rfl
theorem offerExpiry (line : Line) : Statement (.offerExpiry line) := of_nil rfl
theorem partnerExpiry (line : Line) : Statement (.partnerExpiry line) := of_nil rfl
theorem quietExpiry (line : Line) : Statement (.quietExpiry line) := of_nil rfl
theorem takeTelegram (line : Line) : Statement (.takeTelegram line) := of_nil rfl
theorem sample (i : SecNo) (role : SourceRole) (body : List Byte) :
    Statement (.sample i role body) := fun h => by
  simp [Instr.wf, bodyFits] at h; simp only [carried]; omega
theorem breakerState (obj : BreakerObj) (body : List Byte) :
    Statement (.breakerState obj body) := fun h => by
  simp [Instr.wf, bodyFits] at h; simp only [carried]; omega
theorem lineTestResult (obj : BreakerObj) (body : List Byte) :
    Statement (.lineTestResult obj body) := fun h => by
  simp [Instr.wf, bodyFits] at h; simp only [carried]; omega
theorem pointPosition (p : PointNo) (body : List Byte) :
    Statement (.pointPosition p body) := fun h => by
  simp [Instr.wf, bodyFits] at h; simp only [carried]; omega
theorem contact (p : PointNo) (role : ContactRole) (body : List Byte) :
    Statement (.contact p role body) := fun h => by
  simp [Instr.wf, bodyFits] at h; simp only [carried]; omega
theorem vehicleStatus (body : List Byte) :
    Statement (.vehicleStatus body) := fun h => by
  simp [Instr.wf, bodyFits] at h; simp only [carried]; omega
theorem routeRequest (body : List Byte) :
    Statement (.routeRequest body) := fun h => by
  simp [Instr.wf, bodyFits] at h; simp only [carried]; omega
theorem timeMark (line : Line) (src : Byte) (body : List Byte) :
    Statement (.timeMark line src body) := fun h => by
  simp [Instr.wf, bodyFits] at h; simp only [carried]; omega
theorem supervisedOrder (entry : Fin 64) (tg : Telegram) :
    Statement (.supervisedOrder entry tg) := fun h => by
  simp [Instr.wf, bodyFits] at h; simp only [carried]; omega
theorem sectionClose (req : Req) (sec : Byte) : Statement (.sectionClose req sec) := of_nil rfl
theorem sectionOpen (req : Req) (sec kind : Byte) : Statement (.sectionOpen req sec kind) := of_nil rfl
theorem sectionReset (req : Req) (sec : Byte) : Statement (.sectionReset req sec) := of_nil rfl
theorem sectionIsolate (req : Req) (sec force : Byte) : Statement (.sectionIsolate req sec force) := of_nil rfl
theorem sectionRelease (req : Req) (sec : Byte) : Statement (.sectionRelease req sec) := of_nil rfl
theorem stationClose (req : Req) : Statement (.stationClose req) := of_nil rfl
theorem stationOpen (req : Req) (kind : Byte) : Statement (.stationOpen req kind) := of_nil rfl
theorem stationReset (req : Req) : Statement (.stationReset req) := of_nil rfl
theorem pointSet (req : Req) (point leg : Byte) : Statement (.pointSet req point leg) := of_nil rfl
theorem pointLock (req : Req) (point leg : Byte) : Statement (.pointLock req point leg) := of_nil rfl
theorem pointUnlock (req : Req) (point : Byte) : Statement (.pointUnlock req point) := of_nil rfl
theorem pointClear (req : Req) (point : Byte) : Statement (.pointClear req point) := of_nil rfl
theorem vehicleForget (req : Req) (vehicle : BitVec 16) : Statement (.vehicleForget req vehicle) := of_nil rfl
theorem readState (req : Req) (kind : Byte) (number : BitVec 16) (part : Byte) : Statement (.readState req kind number part) := of_nil rfl
theorem readEntry (req : Req) (table index : Byte) : Statement (.readEntry req table index) := of_nil rfl
theorem writeEntry (req : Req) (table index : Byte) (entry : List Byte) :
    Statement (.writeEntry req table index entry) := fun h => by
  simp [Instr.wf] at h; simp only [carried]; omega
theorem entryActive (req : Req) (table index flag : Byte) : Statement (.entryActive req table index flag) := of_nil rfl
theorem setMode (req : Req) (mode : Byte) : Statement (.setMode req mode) := of_nil rfl
theorem readCounters (req : Req) (group : Byte) : Statement (.readCounters req group) := of_nil rfl
theorem clearCounters (req : Req) : Statement (.clearCounters req) := of_nil rfl
theorem readIncident (req : Req) (selector : Byte) (number : BitVec 16) (part piece : Byte) : Statement (.readIncident req selector number part piece) := of_nil rfl
theorem clearIncidents (req : Req) : Statement (.clearIncidents req) := of_nil rfl
theorem storeRead (req : Req) (address : BitVec 16) (count : Byte) : Statement (.storeRead req address count) := of_nil rfl
theorem storeWrite (req : Req) (address : BitVec 16) (bytes : List Byte) :
    Statement (.storeWrite req address bytes) := fun h => by
  simp [Instr.wf] at h; simp only [carried]; omega
theorem storeSave (req : Req) : Statement (.storeSave req) := of_nil rfl
theorem storeReload (req : Req) : Statement (.storeReload req) := of_nil rfl
theorem restartCold (req : Req) : Statement (.restartCold req) := of_nil rfl
theorem restartWarm (req : Req) : Statement (.restartWarm req) := of_nil rfl
theorem storeTransactionAnswer : Statement .storeTransactionAnswer := of_nil rfl
theorem transactionExpiry : Statement .transactionExpiry := of_nil rfl
theorem closeConfirmTimeExpiry (i : SecNo) : Statement (.closeConfirmTimeExpiry i) := of_nil rfl
theorem sectionOpenExpiry (i : SecNo) : Statement (.sectionOpenExpiry i) := of_nil rfl
theorem sectionTripExpiry (i : SecNo) : Statement (.sectionTripExpiry i) := of_nil rfl
theorem stationCloseExpiry : Statement .stationCloseExpiry := of_nil rfl
theorem stationOpenExpiry : Statement .stationOpenExpiry := of_nil rfl
theorem backupTripExpiry : Statement .backupTripExpiry := of_nil rfl
theorem staleExpiry (i : SecNo) (role : SourceRole) : Statement (.staleExpiry i role) := of_nil rfl
theorem blindExpiry (i : SecNo) : Statement (.blindExpiry i) := of_nil rfl
theorem deadTimeExpiry (i : SecNo) : Statement (.deadTimeExpiry i) := of_nil rfl
theorem holdExpiry (i : SecNo) : Statement (.holdExpiry i) := of_nil rfl
theorem lineTestExpiry (i : SecNo) : Statement (.lineTestExpiry i) := of_nil rfl
theorem reclaimExpiry (i : SecNo) : Statement (.reclaimExpiry i) := of_nil rfl
theorem windowExpiry (incident : Nat) : Statement (.windowExpiry incident) := of_nil rfl
theorem admissionExpiry (vehicle : Nat) : Statement (.admissionExpiry vehicle) := of_nil rfl
theorem silenceExpiry (vehicle : Nat) : Statement (.silenceExpiry vehicle) := of_nil rfl
theorem lifeExpiry (p : PointNo) (vehicle : Nat) : Statement (.lifeExpiry p vehicle) := of_nil rfl
theorem throwExpiry (p : PointNo) : Statement (.throwExpiry p) := of_nil rfl
theorem controlSilenceExpiry : Statement .controlSilenceExpiry := of_nil rfl
theorem dayTimeRollover : Statement .dayTimeRollover := of_nil rfl
theorem byteArrives (line : Line) (byte : Byte) : Statement (.byteArrives line byte) := of_nil rfl
theorem supplyFailure : Statement .supplyFailure := of_nil rfl
theorem transmitterFree (line : Line) : Statement (.transmitterFree line) := of_nil rfl

end Sys2Proof.Laws.BytesFit
end

