-- ==== Sys2Proof/Tests/Slice0.lean ====
section
/-! SUPPORT. The model's own tests: what `WellFormed` refuses, values worked by hand from the manual, and for every
statement of Certificates/Slice0/Obligations.lean with hypotheses the states and operands that meet them. -/

namespace Sys2Proof.Tests

open Sys2Proof Sys2Proof.Machine

/-! ### Small states -/

/-- An expiry that falls at part time 5000, the part time of `lab`. -/
def due (n : Nat) : Expiry := ⟨5000 - BitVec.ofNat 32 n, n⟩

/-- An active section entry with program 3 and BlindAction TRIP. -/
def labSection : SectionEntry :=
  { active := true, breaker := 11, set := 0, program := some 2, secondary := false, blindTrip := true, blindTime := 20 }

/-- A station with its state and position. -/
def stationAt (st : StState) (pos : Position) : Station :=
  { state := st, reason := .localClose, position := pos, pending := none, tripLine := false }

/-- A station with a pending order. -/
def stationWith (st : StState) (o : PendingOrder) : Station := { stationAt st .closed with pending := some o }

/-- The part 5 s after its load, in a mode, with the station at `t` and section 1 active at `x`. -/
def labAt (m : Mode) (t : Station) (x : Sec) : State :=
  { State.reset with
    partTime := 5000,
    store := { State.reset.store with status := .absent, op := none, trans := none },
    tables := { defaultTables with
      station := { active := true, breaker := 10 }, sections := defaultTables.sections.set 0 labSection },
    station := t, modeRec := { State.reset.modeRec with mode := m }, secs := State.reset.secs.set 0 x }

/-- The same with the station CLOSED. -/
def lab (m : Mode) (x : Sec) : State := labAt m (stationAt .closed .closed) x

/-- A section that uses its PRIMARY source, with its controller's record. -/
def sighted (c : SectionCtl) : Sec := { coldSec with ctl := c, sel := { coldSelector with state := .usingPrimary } }

/-- A controller's record with its state and position. -/
def ctl (st : SecState) (pos : Position) : SectionCtl := { coldCtl with state := st, position := pos }

/-- A controller's record with a pending order. -/
def ctlWith (st : SecState) (pos : Position) (o : PendingOrder) : SectionCtl := { ctl st pos with pending := some o }

/-- A pending order that is due. -/
def orderOf (k : OrderKind) (o : Origin) (kind : Option TripKind) : PendingOrder :=
  { order := k, origin := o, kind := kind, usesLine := true, expiry := due 200 }

/-- A LIVE section with both positions CLOSED. -/
def liveSec : Sec := sighted (ctl .live .closed)

/-- A section in a phase of its sequence. -/
def inPhase (c : SectionCtl) (p : Phase) : Sec :=
  { sighted c with rcl := { coldReclose with
      phase := p, nextShot := some 1, dead := some (due 500), hold := some (due 3000), lineTest := some (due 3000),
      reclaim := some (due 3000) } }

/-- The six gates with all but the first holding. -/
def otherGates : Gates := ⟨false, true, true, true, true, true⟩

/-- A port whose link is UP and whose receiver is READY. -/
def upPort : Port := { coldPort 0 with link := .up, rx := .ready, offerExp := none, partnerExp := none, quiet := some (due 3000) }

/-- The part with a Field line port. -/
def withField (p : Port) (s : State) : State := { s with fieldPort := p }

/-- The part with a Control line port. -/
def withControl (p : Port) (s : State) : State := { s with controlPort := p }

/-- The part with point 1 active, fed by section 1, at `x`. -/
def withPoint (x : Point) (s : State) : State :=
  { s with
    tables := { s.tables with
      points := s.tables.points.set 0
        { active := true, motor := 12, supply := 0, straight := some 0, diverging := some 1, throwTime := 20 },
      settings := { s.tables.settings with gateway := 40 } },
    points := s.points.set 0 x }

/-- A supplied point at rest on a leg. -/
def restPoint (pos : PointPos) : Point := { coldPoint with position := pos, supplyLive := true }

/-- A queued request of a vehicle. -/
def queued (v : Nat) : Request := { vehicle := v, leg := .straight, arrival := 0, granted := none, life := due 3000 }

/-- A vehicle of the table. -/
def vehicleNo (n : Nat) (admitted : Bool) : Vehicle :=
  { number := n, admitted := admitted, loc := some 0, source := .marker, state := .running, faults := [], lastHeard := 0,
    admission := if admitted then none else some (due 2000), silence := if admitted then some (due 3000) else none,
    attributed := 0, lastPoint := none, obstruction := none, lastOrder := none }

/-- The part with vehicles in its table. -/
def withVehicles (vs : List Vehicle) (s : State) : State := { s with vehicles := { s.vehicles with entries := vs } }

/-- An incident of section 1. -/
def incidentNo (n : Nat) (st : IncState) : Incident :=
  { number := n, kind := .tripInstant, object := .sec 0, detail := none, opened := ⟨0, none⟩, state := st,
    outcome := none, closed := none, window := some (due 2000), captured := none, tripCount := 1, lastTrip := none,
    shots := [], vehicles := [], more := false }

/-- An incident of section 1 whose last trip is 100 ms old, with the vehicles attributed to it. -/
def trippedNo (n : Nat) (vs : List Attributed) : Incident :=
  { incidentNo n .opened with lastTrip := some (.instant, 4900), vehicles := vs }

/-- Vehicle 1, attributed for INSULATION. -/
def fault1 : Attributed := ⟨1, .insulation, true, 4000⟩

/-- The pending order of a trip from protection. -/
def tripOrder : PendingOrder := orderOf .trip .protection (some .instant)

/-- The record of a section in a state of its incident 8. -/
def ofEight (st : SecState) (pos : Position) : SectionCtl := { ctl st pos with incident := some 8 }

/-- A section TRIPPING from protection for incident 8. -/
def trippingSec : Sec := sighted { ofEight .tripping .closed with pending := some tripOrder }

/-- A section TESTING for incident 8, with its shot count and whether its hold is overdue. -/
def testingSec (shots : Nat) (late : Bool) : Sec :=
  let x := inPhase (ofEight .testing .opened) .testing
  { x with rcl := { x.rcl with shots := shots, holdOverdue := late } }

/-- A section GATING for incident 8, with its gates. -/
def gatingSec (g : Gates) : Sec :=
  let x := inPhase (ofEight .waiting .opened) .gating
  { x with rcl := { x.rcl with gates := g } }

/-- The part with incident records. -/
def withIncidents (rs : List Incident) (s : State) : State := { s with incidents := { s.incidents with records := rs, next := 9 } }

/-- The part with a store record. -/
def withStore (r : StoreRecord) (s : State) : State := { s with store := r }

/-- The part with an entry of the binding table at index 63. -/
def withBinding (b : Binding) (s : State) : State :=
  { s with tables := { s.tables with binding := s.tables.binding.set 63 b } }

/-- A telegram of no own kind for station 7. -/
def someTg : Telegram := { dst := 7, src := 9, kind := 0x41, body := [] }

/-- The same with a check word, as a receive buffer holds it. -/
def someRx : RxTelegram := ⟨someTg, 0⟩

/-- A binding entry that matches the breaker kind of `someTg`, with a disposition. -/
def labBinding (d : Disposition) : Binding :=
  { active := true, line := (false, .field), src := (false, 0), dst := (true, 7), kind := (true, 0x41),
    key := (false, 0), disposition := d, role := some (.breaker (.sec 0)), rewrite := some 8 }

/-- A request of the control station on the Control line. -/
def req : Req := ⟨.control, 1, 5⟩

/-- The state a command answers, where it answers a next one. -/
def after (c : Instr) (s : State) : Option State :=
  match exec c s with
  | .next t => some t
  | _ => none

/-! ### What `WellFormed` refuses, check by check -/

/-- A body one byte too long. -/
def longBody : List Byte := List.replicate 49 0

theorem test_wf_telegram_short : (Instr.telegramReceived .field (List.replicate 6 0)).wf = false := by decide
theorem test_wf_telegram_long : (Instr.telegramReceived .field (List.replicate 56 0)).wf = false := by decide
theorem test_wf_link_offer : (Instr.linkOffer .field 1 2 longBody).wf = false := by decide
theorem test_wf_idle_gap : (Instr.idleGap .control 1).wf = false := by decide
theorem test_wf_sample : (Instr.sample 0 .primary longBody).wf = false := by decide
theorem test_wf_breaker_state : (Instr.breakerState .station longBody).wf = false := by decide
theorem test_wf_line_test_result : (Instr.lineTestResult (.sec 2) longBody).wf = false := by decide
theorem test_wf_point_position : (Instr.pointPosition 3 longBody).wf = false := by decide
theorem test_wf_contact : (Instr.contact 3 .clear longBody).wf = false := by decide
theorem test_wf_vehicle_status : (Instr.vehicleStatus longBody).wf = false := by decide
theorem test_wf_route_request : (Instr.routeRequest longBody).wf = false := by decide
theorem test_wf_time_mark : (Instr.timeMark .control 1 longBody).wf = false := by decide
theorem test_wf_supervised_order : (Instr.supervisedOrder 0 { someTg with body := longBody }).wf = false := by decide
theorem test_wf_write_entry : (Instr.writeEntry req 0 0 (List.replicate 45 0)).wf = false := by decide
theorem test_wf_store_write : (Instr.storeWrite req 0 (List.replicate 44 0)).wf = false := by decide
theorem test_wf_window_expiry : (Instr.windowExpiry 0).wf = false ∧ (Instr.windowExpiry 65536).wf = false := by decide
theorem test_wf_admission_expiry : (Instr.admissionExpiry 0).wf = false ∧ (Instr.admissionExpiry 10000).wf = false := by
  decide
theorem test_wf_silence_expiry : (Instr.silenceExpiry 0).wf = false ∧ (Instr.silenceExpiry 10000).wf = false := by decide
theorem test_wf_life_expiry : (Instr.lifeExpiry 4 0).wf = false ∧ (Instr.lifeExpiry 4 10000).wf = false := by decide
theorem test_wf_accepts : (Instr.sample 0 .primary (List.replicate 48 0)).wf = true ∧ (Instr.idleGap .field 2).wf = true := by
  decide

/-! ### Values worked by hand from the manual -/

/-- Chapter 12: the check word is the CRC-16 of polynomial 0x1021 and first value 0xFFFF, whose published check value
over the digits 1 to 9 is 0x29B1. -/
theorem test_check_word : crc [0x31, 0x32, 0x33, 0x34, 0x35, 0x36, 0x37, 0x38, 0x39] = 0x29B1 := by decide +kernel

/-- Chapter 12, "The store image": a saved image ends with its check word at bytes 1022 and 1023. -/
theorem test_image_length : (signature ++ defaultTables.saved).length = 1022 := by decide +kernel

/-- A LIVE section with its last computed sample. -/
def measured (current : Int) (tick : Tick) (h : Nat) : Sec :=
  { liveSec with feed := { coldFeeder with prev := some (current, tick), h := h } }

/-- Worked case A of 02: four samples of a rise of 1700 A in 16 ticks give a DELTA decision with H 364,400. -/
theorem test_case_a :
    (after (.sample 0 .primary [4, 0x03, 0xEC, 0x03, 0x84, 0x03, 0xF0, 0x05, 0x78, 0x03, 0xF4, 0x07, 0x6C, 0x03, 0xF8,
      0x08, 0xFC]) (lab .active (measured 600 1000 0))).map (fun t =>
        ((t.sec 0).feed.h, (t.sec 0).feed.prev, (t.sec 0).ctl.state, (t.sec 0).ctl.reason))
      = some (364400, some (2300, 1016), .tripping, .delta) := by decide +kernel

/-- Worked case D of 02: wrap, saturation, gap and duplicate. -/
theorem test_case_d :
    (after (.sample 0 .primary [6, 0xFF, 0xE0, 0x03, 0x34, 0xFF, 0xFE, 0x03, 0x84, 0x00, 0x02, 0x1C, 0xE8, 0x01, 0x2E, 0,
      0, 0x01, 0x2E, 0, 0, 0x01, 0x32, 0xF2, 0x54]) (lab .active (measured 800 65500 0))).map (fun t =>
        ((t.sec 0).feed.h, (t.sec 0).feed.saturated, (t.sec 0).feed.gap, (t.sec 0).feed.dup, (t.sec 0).ctl.reason))
      = some (2065096, 2, 1, 1, .instant) := by decide +kernel

/-- Worked case C of 02: the 38,820th sample takes H across the half limit, with no decision. -/
theorem test_case_c_half :
    (after (.sample 0 .primary [1, 0x00, 0x04, 0x05, 0xDC]) (lab .active (measured 1500 0 2499943600))).map (fun t =>
        ((t.sec 0).feed.h, (t.sec 0).feed.aboveHalf, (t.sec 0).ctl.state))
      = some (2500008000, true, .live) := by decide +kernel

/-- Worked case C of 02: the 77,640th sample trips the section. -/
theorem test_case_c_limit :
    (after (.sample 0 .primary [1, 0x00, 0x04, 0x05, 0xDC]) (lab .active (measured 1500 0 4999951600))).map (fun t =>
        ((t.sec 0).feed.h, (t.sec 0).ctl.state, (t.sec 0).ctl.reason))
      = some (5000016000, .tripping, .thermal) := by decide +kernel

/-- Worked case E of 02: the sample that takes the reverse run to ReverseTime records the incident. -/
theorem test_case_e :
    (after (.sample 0 .primary [1, 0x20, 0xD0, 0xFC, 0xE0])
      (lab .active { liveSec with feed := { coldFeeder with prev := some (-800, 8396), revRun := 396 } })).map (fun t =>
        ((t.sec 0).feed.revRun, (t.sec 0).feed.revRaised, t.incidents.records.map fun r => r.kind))
      = some (400, true, [.reverseUnexplained]) := by decide +kernel

/-- 4.10, row 105,300, with program 3: a result below TestMin 1000 fails shot 1, and the dead time of shot 2 begins. -/
theorem test_line_test_fails :
    (after (.lineTestResult (.sec 0) [0x03, 0xE7])
      (lab .active { sighted (ctl .testing .opened) with
        rcl := { (inPhase (ctl .testing .opened) .testing).rcl with shots := 1 } })).map (fun t =>
        ((t.sec 0).ctl.state, (t.sec 0).rcl.phase, (t.sec 0).rcl.nextShot, (t.sec 0).rcl.dead.map Expiry.span))
      = some (.waiting, .gating, some 2, some 5000) := by decide +kernel

/-- 7.11, row 600,000: the head of an empty queue wants the other leg, and a throw is made for it. -/
theorem test_route_request_throws :
    (after (.routeRequest [0x08, 0xCA, 1, 1]) (withPoint (restPoint .straight) (lab .active liveSec))).map (fun t =>
        (t.points[0].activity, t.points[0].motion.map Motion.leg, t.points[0].queue.map Request.vehicle))
      = some (.throwing, some .diverging, [2250]) := by decide +kernel

/-- 9.6, row 130: a plain offer of 9600, 19200 and 57600 is resolved to 57600, acknowledged at 9600. -/
theorem test_offer_resolves :
    (after (.linkOffer .field 255 60 [0x07, 0, 0xFF]) (withField { coldPort 0 with rx := .ready } (lab .active liveSec))).map (fun t =>
        (t.fieldPort.link, t.fieldPort.resolved, t.fieldPort.rate, t.fieldPort.quiet.map Expiry.span))
      = some (.acknowledging, some .r57600, .r9600, some 3000) := by decide +kernel

/-- 10.9, row 710,000: silence of the control station makes the part AUTONOMOUS. -/
theorem test_control_silence :
    (after .controlSilenceExpiry
      { lab .active liveSec with modeRec := { State.reset.modeRec with mode := .active, silence := some (due 10000) } }).map
        (fun t => (t.mode, t.modeRec.silent, t.modeRec.autonomous))
      = some (.autonomous, true, 1) := by decide +kernel

/-- R98: of two codes recorded at one time INSULATION stands before DEWIRED, whichever status came first. -/
theorem test_fault_order :
    (after (.vehicleStatus [0, 1, 1, 0, 2, 3, 1])
      (withVehicles [{ vehicleNo 1 true with faults := [(.dewired, 5000)] }] (lab .active liveSec))).map (fun t =>
        t.vehicles.entries.map fun v => v.faults.map Prod.fst)
      = some [[.insulation, .dewired]] := by decide +kernel

/-- R35, R69: a sample that takes H across the half limit is told although the side it reaches is the one last told, as
after a change of ThermalLimit: gate 4 is judged anew. -/
theorem test_crossing_is_told :
    (after (.sample 0 .primary [1, 0x00, 0x04, 0x05, 0xDC])
      (lab .active { gatingSec { otherGates with deadTime := false } with
        feed := { coldFeeder with prev := some (1500, 0), h := 2499943600, aboveHalf := true } })).map (fun t =>
        ((t.sec 0).feed.h, (t.sec 0).feed.aboveHalf, (t.sec 0).rcl.gates.thermal))
      = some (2500008000, true, false) := by decide +kernel

/-- R79, R87: the station position becoming OPEN cancels no sequence of a LIVE section that is in none, and its incident
number stands until SECTION_RESET. -/
theorem test_incident_is_kept :
    (after (.breakerState .station [0])
      (withIncidents [incidentNo 8 .closed] (lab .active (sighted (ofEight .live .closed))))).map (fun t =>
        ((t.sec 0).ctl.state, (t.sec 0).ctl.incident))
      = some (.dead, some 8) := by decide +kernel

/-! ### The states and operands that meet each statement's hypotheses -/

/-- R4: the law of LIVE holds of the part with a LIVE section. -/
theorem lab_lawful : (lab .active liveSec).Lawful where
  sections i :=
    { live := by revert i; decide
      closing := by revert i; decide
      former := fun st r h => by
        have none_ : ∀ i : SecNo, ((lab .active liveSec).sec i).ctl.former = none := by decide
        rw [none_ i] at h; cases h
      gating := by revert i; decide
      testing := by revert i; decide
      inactive := by revert i; decide }
  loading := by decide

/-- The buffers and queues of the part with a LIVE section are within their limits. -/
theorem lab_bounded : (lab .active liveSec).Bounded where
  field := ⟨by decide, by decide, by decide⟩
  control := ⟨by decide, by decide, by decide⟩
  points p := ⟨by revert p; decide, by revert p; decide⟩

theorem witness_EveryStepKeepsTheLawOfLive : ∃ s t : State, s.Lawful ∧ step s = .next t :=
  ⟨lab .active liveSec, (lab .active liveSec).tick, lab_lawful, rfl⟩

theorem witness_EveryStepKeepsBuffersAndCountsInRange : ∃ s t : State, s.Bounded ∧ step s = .next t :=
  ⟨lab .active liveSec, (lab .active liveSec).tick, lab_bounded, rfl⟩

/-- A supply failure answers the state in which the supply has failed. -/
theorem exec_supplyFailure (s : State) : exec .supplyFailure s = .next s.supplyFails := rfl

theorem witness_StepTakesTheFrontCommand :
    (∃ (s : State) (c : Instr) (rest : List Instr), s.pending = c :: rest) ∧
    (∃ (s : State), s.pending = []) :=
  ⟨⟨{ State.reset with pending := [.supplyDip, .powerOn] }, .supplyDip, [.powerOn], by decide⟩,
   ⟨State.reset, by decide⟩⟩

theorem witness_NothingIsOrderedInObserve :
    ∃ (c : Instr) (s t : State), exec c s = .next t ∧ s.mode = .observe ∧ t.mode = .observe :=
  ⟨.dayTimeRollover, lab .observe liveSec, lab .observe liveSec, ⟨rfl, by decide, by decide⟩⟩

theorem witness_EveryStepKeepsTheStoreCanonical :
    ∃ (s t : State), Memory.wf s.storeMem = true ∧ step s = .next t :=
  ⟨{ lab .active liveSec with storeMem := [(8191, 0)] },
     { lab .active liveSec with storeMem := [(8191, 0)], partTime := 5001 }, ⟨by decide, rfl⟩⟩

theorem witness_EveryStepTellsThePointsTheirSupply :
    ∃ (s t : State), s.SuppliesTold ∧ step s = .next t :=
  ⟨withPoint (restPoint .straight) (lab .active liveSec),
     { withPoint (restPoint .straight) (lab .active liveSec) with partTime := 5001 }, ⟨by decide, rfl⟩⟩

theorem witness_ColdRestartTakesEveryColdValue :
    (∃ (s : State), (∀ a bs x, s.store.trans ≠ some (.write a bs, x)) ∧ s.resetLine = false) ∧
    (∃ (s : State), (∀ a bs x, s.store.trans ≠ some (.write a bs, x)) ∧ s.resetLine = true ∧ s.supplyUp = true) ∧
    (∃ (s : State) (r : Req), (∀ a bs x, s.store.trans ≠ some (.write a bs, x)) ∧ s.Working ∧ s.mayManage r = true ∧
    s.store.op = none) :=
  ⟨⟨lab .active liveSec, ⟨fun _ _ _ => nofun, by decide⟩⟩,
   ⟨{ lab .active liveSec with resetLine := true }, ⟨fun _ _ _ => nofun, by decide⟩⟩,
   ⟨lab .active liveSec, req, ⟨fun _ _ _ => nofun, by decide⟩⟩⟩

theorem witness_SupplyFailureAndResetLineReleaseTheTripLines :
    ∃ (s : State), (∀ a bs x, s.store.trans ≠ some (.write a bs, x)) :=
  ⟨lab .active liveSec, fun _ _ _ => nofun⟩

theorem witness_InterruptedWriteTouchesOnlyItsRun :
    ∃ (s : State) (a : Nat) (bs : List Byte) (x : Expiry) (c : Instr) (t : State), Memory.wf s.storeMem = true ∧
    s.store.trans = some (.write a bs, x) ∧ c ∈ [.powerOn, .supplyDip, .supplyFailure, .resetLineAsserted] ∧ exec c
    s = .next t :=
  ⟨withStore { State.reset.store with trans := some (.write 8190 [1, 2], due 25) } (lab .active liveSec),
     8190, [1, 2], due 25, .supplyFailure,
     (withStore { State.reset.store with trans := some (.write 8190 [1, 2], due 25) } (lab .active liveSec)).supplyFails,
     ⟨by decide, rfl, by decide, exec_supplyFailure _⟩⟩

theorem witness_NothingActsWhileHeldInReset :
    ∃ (c : Instr) (s : State), s.held = true ∧ c ∉ [.powerOn, .supplyDip, .supplyFailure, .resetLineAsserted,
    .resetLineReleased] :=
  ⟨.dayTimeRollover, { lab .active liveSec with supplyUp := false }, by decide⟩

theorem witness_ValidTelegramGoesIntoTheBuffer :
    (∃ (l : Line) (tg : Telegram) (s : State), s.held = false ∧ (s.port l).rx = .ready ∧ tg.body.length ≤ 48 ∧
    (s.port l).link = .up ∧ tg.kind ≠ kLinkOffer ∧ (s.port l).buffer.length < 4) ∧
    (∃ (l : Line) (tg : Telegram) (s : State), s.held = false ∧ (s.port l).rx = .ready ∧ tg.body.length ≤ 48 ∧
    (s.port l).link = .up ∧ tg.kind ≠ kLinkOffer ∧ 4 ≤ (s.port l).buffer.length) ∧
    (∃ (l : Line) (tg : Telegram) (w : CheckWord) (s : State), s.held = false ∧ (s.port l).rx = .ready ∧
    tg.body.length ≤ 48 ∧ w ≠ crc (Telegram.covered tg)) :=
  ⟨⟨.field, { someTg with body := List.replicate 48 0 },
     withField { upPort with buffer := [someRx, someRx, someRx] } (lab .active liveSec), by decide⟩,
   ⟨.control, someTg,
     withControl { upPort with buffer := [someRx, someRx, someRx, someRx] } (lab .active liveSec), by decide⟩,
   ⟨.field, someTg, crc (Telegram.covered someTg) + 1,
     withField { coldPort 0 with rx := .ready } (lab .active liveSec), by decide +kernel⟩⟩

theorem witness_ByteOutsideATelegram :
    (∃ (l : Line) (s : State), s.held = false ∧ ((s.port l).rx = .waitingGap ∨ (s.port l).rx = .babble)) ∧
    (∃ (l : Line) (s : State), s.held = false ∧ ((s.port l).rx = .waitingGap ∨ (s.port l).rx = .babble)) ∧
    (∃ (l : Line) (b : Byte) (s : State), s.held = false ∧ (s.port l).rx = .ready ∧ b = 0xC3) ∧
    (∃ (l : Line) (b : Byte) (s : State), s.held = false ∧ (s.port l).rx = .ready ∧ b ≠ 0xC3) ∧
    (∃ (l : Line) (s : State), s.held = false ∧ (s.port l).rx = .skipping ∧ (s.port l).rxRun < 64 ∧ (s.port
    l).rxTail = false) ∧
    (∃ (l : Line) (s : State), s.held = false ∧ (s.port l).rx = .skipping ∧ (s.port l).rxRun < 64 ∧ (s.port
    l).rxTail = true) :=
  ⟨⟨.field, withField { coldPort 0 with rx := .waitingGap } (lab .active liveSec), by decide⟩,
   ⟨.field, withField { coldPort 0 with rx := .babble } (lab .active liveSec), by decide⟩,
   ⟨.field, 0xC3, withField upPort (lab .active liveSec), by decide⟩,
   ⟨.field, 0xC2, withField upPort (lab .active liveSec), by decide⟩,
   ⟨.field, withField { upPort with rx := .skipping, rxRun := 63 } (lab .active liveSec), by decide⟩,
   ⟨.field, withField { upPort with rx := .skipping, rxRun := 7, rxTail := true } (lab .active liveSec),
     by decide⟩⟩

theorem witness_BabbleAndIdleGaps :
    (∃ (l : Line) (n : Nat) (s : State), s.held = false ∧ 2 ≤ n ∧ ((s.port l).rx = .receiving ∨ (s.port l).rx =
    .skipping) ∧ 64 ≤ (s.port l).rxRun) ∧
    (∃ (l : Line) (n : Nat) (s : State), s.held = false ∧ 2 ≤ n ∧ (s.port l).rx = .babble ∧ 16 ≤ n) ∧
    (∃ (l : Line) (n : Nat) (s : State), s.held = false ∧ 2 ≤ n ∧ (s.port l).rx = .receiving) ∧
    (∃ (l : Line) (n : Nat) (s : State), s.held = false ∧ 2 ≤ n ∧ (s.port l).rx = .babble ∧ n < 16) :=
  ⟨⟨.field, 2, withField { upPort with rx := .receiving, rxRun := 64 } (lab .active liveSec), by decide⟩,
   ⟨.field, 16, withField { upPort with rx := .babble } (lab .active liveSec), by decide⟩,
   ⟨.field, 2, withField { upPort with rx := .receiving, rxBytes := [7], rxRun := 2 } (lab .active liveSec),
     by decide⟩,
   ⟨.field, 15, withField { upPort with rx := .babble } (lab .active liveSec), by decide⟩⟩

theorem witness_PlainOfferBeginsAcknowledging :
    ∃ (l : Line) (ability : Byte) (s : State), s.held = false ∧ (s.port l).rx = .ready ∧ (s.port l).link =
    .negotiating ∧ (s.port l).rate = .r9600 ∧ (s.port l).tx = none ∧ ability.toNat % 16 ≠ 0 :=
  ⟨.field, 0x05, withField { coldPort 0 with rx := .ready } (lab .active liveSec), by decide⟩

theorem witness_LinkExpiries :
    (∃ (l : Line) (s : State), s.held = false ∧ (s.port l).link ≠ .up ∧ dueNow s.partTime (s.port l).offerExp = true
    ∧ (s.port l).tx = none) ∧
    (∃ (l : Line) (s : State), s.held = false ∧ (s.port l).link = .negotiating ∧ dueNow s.partTime (s.port
    l).partnerExp = true) ∧
    (∃ (l : Line) (s : State), s.held = false ∧ (s.port l).link ≠ .negotiating ∧ dueNow s.partTime (s.port l).quiet
    = true) :=
  ⟨⟨.field, withField { coldPort 0 with offerExp := some (due 100) } (lab .active liveSec), by decide⟩,
   ⟨.control, withControl { coldPort 0 with partnerExp := some (due 2000) } (lab .active liveSec), by decide⟩,
   ⟨.field, withField { upPort with normal := [someTg], buffer := [someRx] } (lab .active liveSec), by decide⟩⟩

theorem witness_FurtherAckOfferMakesTheLinkUp :
    ∃ (l : Line) (s : State) (f : List Byte) (r : Rate), s.held = false ∧ (s.port l).link = .acknowledging ∧
    (s.port l).ackReceived = true ∧ (s.port l).resolved = some r ∧ (s.port l).tx = some ⟨f, true⟩ :=
  ⟨.field,
     withField { upPort with link := .acknowledging, ackReceived := true, resolved := some .r57600, tx := some ⟨[0xC3], true⟩ } (lab .active liveSec),
     [0xC3], .r57600, by decide⟩

theorem witness_TransmitterTakesTheUrgentQueueFirst :
    (∃ (l : Line) (s : State) (o : UrgentOrder) (os : List UrgentOrder), s.held = false ∧ (s.port l).link = .up ∧
    (s.port l).urgent = o :: os) ∧
    (∃ (l : Line) (s : State) (t : Telegram) (ts : List Telegram), s.held = false ∧ (s.port l).link = .up ∧ (s.port
    l).urgent = [] ∧ (s.port l).normal = t :: ts) ∧
    (∃ (l : Line) (s : State) (f : List Byte), s.held = false ∧ (s.port l).link ≠ .up ∧ (s.port l).tx = some ⟨f,
    false⟩ ∧ (s.port l).offersWaiting = 0 ∧ (s.port l).furtherWaiting = false) :=
  ⟨⟨.field,
     withField { upPort with urgent := [⟨.station, .trip, someTg⟩], normal := [someTg] } (lab .active liveSec),
     ⟨.station, .trip, someTg⟩, [], by decide⟩,
   ⟨.control, withControl { upPort with normal := [someTg, someTg] } (lab .active liveSec), someTg, [someTg],
     by decide⟩,
   ⟨.field, withField { coldPort 0 with tx := some ⟨[0xC3], false⟩ } (lab .active liveSec), [0xC3], by decide⟩⟩

theorem witness_FramedTelegramReadsBack :
    ∃ (tg : Telegram), tg.body.length ≤ 48 :=
  ⟨{ someTg with body := List.replicate 48 0 }, by decide⟩

theorem witness_UnmatchedTelegramTakesTheDefaultDisposition :
    (∃ (l : Line) (r : RxTelegram) (rest : List RxTelegram) (s : State), s.Working ∧ s.SuppliesTold ∧ (s.port
    l).buffer = r :: rest ∧ r.tg.dst ≠ s.settings.own ∧ ¬(l = .control ∧ r.tg.src = s.settings.control) ∧ (∀ k : Fin
    64, s.tables.binding[k].matches l r.tg = false) ∧ s.settings.forwardDefault = true) ∧
    (∃ (l : Line) (r : RxTelegram) (rest : List RxTelegram) (s : State), s.Working ∧ s.SuppliesTold ∧ (s.port
    l).buffer = r :: rest ∧ r.tg.dst ≠ s.settings.own ∧ ¬(l = .control ∧ r.tg.src = s.settings.control) ∧ (∀ k : Fin
    64, s.tables.binding[k].matches l r.tg = false) ∧ s.settings.forwardDefault = false) :=
  ⟨⟨.control, someRx, [someRx], withControl { upPort with buffer := [someRx, someRx] } (lab .active liveSec),
     by decide⟩,
   ⟨.field, someRx, [],
     withField { upPort with buffer := [someRx] } { lab .active liveSec with tables := { (lab .active liveSec).tables with settings := { defaultSettings with forwardDefault := false } } },
     by decide⟩⟩

theorem witness_DecidingEntryForwardsOrDiscards :
    (∃ (l : Line) (r : RxTelegram) (rest : List RxTelegram) (s : State) (k : Fin 64), s.Working ∧ s.SuppliesTold ∧
    (s.port l).buffer = r :: rest ∧ r.tg.dst ≠ s.settings.own ∧ ¬(l = .control ∧ r.tg.src = s.settings.control) ∧ (∀
    j : Fin 64, j ≤ k → (j = k ↔ (s.tables.binding[j].active = true ∧ (s.tables.binding[j].line.1 = true →
    s.tables.binding[j].line.2 = l) ∧ (s.tables.binding[j].src.1 = true → s.tables.binding[j].src.2 = r.tg.src) ∧
    (s.tables.binding[j].dst.1 = true → s.tables.binding[j].dst.2 = r.tg.dst) ∧ (s.tables.binding[j].kind.1 = true →
    s.tables.binding[j].kind.2 = r.tg.kind) ∧ (s.tables.binding[j].key.1 = true → s.tables.binding[j].key.2 =
    r.tg.body.headD 0)))) ∧ s.tables.binding[k].disposition = .forward) ∧
    (∃ (l : Line) (r : RxTelegram) (rest : List RxTelegram) (s : State) (k : Fin 64), s.Working ∧ s.SuppliesTold ∧
    (s.port l).buffer = r :: rest ∧ r.tg.dst ≠ s.settings.own ∧ ¬(l = .control ∧ r.tg.src = s.settings.control) ∧ (∀
    j : Fin 64, j ≤ k → (j = k ↔ (s.tables.binding[j].active = true ∧ (s.tables.binding[j].line.1 = true →
    s.tables.binding[j].line.2 = l) ∧ (s.tables.binding[j].src.1 = true → s.tables.binding[j].src.2 = r.tg.src) ∧
    (s.tables.binding[j].dst.1 = true → s.tables.binding[j].dst.2 = r.tg.dst) ∧ (s.tables.binding[j].kind.1 = true →
    s.tables.binding[j].kind.2 = r.tg.kind) ∧ (s.tables.binding[j].key.1 = true → s.tables.binding[j].key.2 =
    r.tg.body.headD 0)))) ∧ s.tables.binding[k].disposition = .discard) :=
  ⟨⟨.control, someRx, [someRx],
     withBinding (labBinding .forward) (withControl { upPort with buffer := [someRx, someRx] } (lab .active liveSec)),
     63, by decide⟩,
   ⟨.control, someRx, [someRx],
     withBinding (labBinding .discard) (withControl { upPort with buffer := [someRx, someRx] } (lab .active liveSec)),
     63, by decide⟩⟩

theorem witness_TelegramsPassThroughWhileLoading :
    (∃ (l : Line) (r : RxTelegram) (rest : List RxTelegram) (s : State), s.held = false ∧ s.loading = true ∧
    s.SuppliesTold ∧ (s.port l).buffer = r :: rest ∧ r.tg.dst ≠ s.settings.own) ∧
    (∃ (l : Line) (r : RxTelegram) (rest : List RxTelegram) (s : State) (tag code : Byte) (args : List Byte), s.held
    = false ∧ s.loading = true ∧ s.SuppliesTold ∧ (s.port l).buffer = r :: rest ∧ r.tg.dst = s.settings.own ∧
    r.tg.kind = kCommand ∧ r.tg.body = tag :: code :: args) :=
  ⟨⟨.field, someRx, [], withField { upPort with buffer := [someRx] } State.reset, by decide⟩,
   ⟨.control, ⟨⟨254, 1, 0x70, [5, 1, 1]⟩, 0⟩, [],
     withControl { upPort with buffer := [⟨⟨254, 1, 0x70, [5, 1, 1]⟩, 0⟩] } State.reset, 5, 1, [1], by decide⟩⟩

theorem witness_TimeMarkSetsTheDayTime :
    (∃ (l : Line) (src a b c d : Byte) (s : State), s.Working ∧ s.SuppliesTold ∧ l = .control ∧ src =
    s.settings.control ∧ read32 a b c d < 86400000) ∧
    (∃ (l : Line) (src a b c d : Byte) (s : State), s.Working ∧ s.SuppliesTold ∧ l = .control ∧ src =
    s.settings.control ∧ 86400000 ≤ read32 a b c d) ∧
    (∃ (l : Line) (src : Byte) (s : State) (body : List Byte), s.Working ∧ s.SuppliesTold ∧ l = .control ∧ src =
    s.settings.control ∧ body.length ≠ 4) ∧
    (∃ (l : Line) (src : Byte) (s : State), s.Working ∧ s.SuppliesTold ∧ ¬(l = .control ∧ src = s.settings.control)) :=
  ⟨⟨.control, 1, 0x05, 0x26, 0x5B, 0xFF, lab .active liveSec, by decide⟩,
   ⟨.control, 1, 0x05, 0x26, 0x5C, 0x00, lab .active liveSec, by decide⟩,
   ⟨.control, 1, lab .active liveSec, [1, 2, 3], by decide⟩,
   ⟨.field, 1, lab .active liveSec, by decide⟩⟩

theorem witness_SupervisedCloseIsConverted :
    (∃ (k : Fin 64) (t : Telegram) (i : SecNo) (s : State), s.Working ∧ s.SuppliesTold ∧ s.deciding .control t =
    some k ∧ s.tables.binding[k].disposition = .supervise ∧ s.tables.binding[k].role = some (.breaker (.sec i)) ∧
    t.kind = kBreakerClose ∧ t.body = [] ∧ (s.secEntry i).active = true ∧ s.mode ≠ .observe ∧ (s.sec i).ctl.state =
    .live) ∧
    (∃ (k : Fin 64) (t : Telegram) (i : SecNo) (s : State), s.Working ∧ s.SuppliesTold ∧ s.deciding .control t =
    some k ∧ s.tables.binding[k].disposition = .supervise ∧ s.tables.binding[k].role = some (.breaker (.sec i)) ∧
    t.kind = kBreakerClose ∧ t.body = [] ∧ (s.secEntry i).active = true ∧ s.mode ≠ .observe ∧ (s.sec i).ctl.state =
    .dead ∧ s.closeAllowed i = true) ∧
    (∃ (k : Fin 64) (t : Telegram) (i : SecNo) (s : State), s.Working ∧ s.SuppliesTold ∧ s.deciding .control t =
    some k ∧ s.tables.binding[k].disposition = .supervise ∧ s.tables.binding[k].role = some (.breaker (.sec i)) ∧
    t.kind = kBreakerClose ∧ t.body = [] ∧ (s.secEntry i).active = true ∧ s.mode = .observe ∧ (s.sec i).ctl.state =
    .live) :=
  ⟨⟨63, someTg, 0, withBinding (labBinding .supervise) (lab .active liveSec), by decide⟩,
   ⟨63, someTg, 0, withBinding (labBinding .supervise) (lab .autonomous (sighted (ctl .dead .opened))),
     by decide⟩,
   ⟨63, someTg, 0, withBinding (labBinding .supervise) (lab .observe liveSec), by decide⟩⟩

theorem witness_SampleMovesTheThermalValue :
    (∃ (i : SecNo) (r : SourceRole) (t1 t0 c1 c0 : Byte) (s : State) (current : Int) (credit : Nat), s.Working ∧
    (s.secEntry i).active = true ∧ (s.sec i).activeSource = some r ∧ (r = .secondary → (s.secEntry i).secondary =
    true) ∧ current = max (-3000) (min 7000 (c1 ++ c0 : BitVec 16).toInt) ∧ (∀ ip tp, (s.sec i).feed.prev = some
    (ip, tp) → (t1 ++ t0 - tp : BitVec 16).toNat ≠ 0 ∧ credit = if (t1 ++ t0 - tp : BitVec 16).toNat ≤ 40 then (t1
    ++ t0 - tp : BitVec 16).toNat else 40) ∧ ((s.sec i).feed.prev = none → credit = 40)) ∧
    (∃ (i : SecNo) (r : SourceRole) (t1 t0 c1 c0 : Byte) (s : State) (current : Int) (credit : Nat), s.Working ∧
    (s.secEntry i).active = true ∧ (s.sec i).activeSource = some r ∧ (r = .secondary → (s.secEntry i).secondary =
    true) ∧ current = max (-3000) (min 7000 (c1 ++ c0 : BitVec 16).toInt) ∧ (∀ ip tp, (s.sec i).feed.prev = some
    (ip, tp) → (t1 ++ t0 - tp : BitVec 16).toNat ≠ 0 ∧ credit = if (t1 ++ t0 - tp : BitVec 16).toNat ≤ 40 then (t1
    ++ t0 - tp : BitVec 16).toNat else 40) ∧ ((s.sec i).feed.prev = none → credit = 40)) :=
  ⟨⟨0, .primary, 0, 0, 0x03, 0xE8,
     lab .active { liveSec with feed := { coldFeeder with prev := some (900, 0xFFD8), h := 7 } }, 1000, 40,
     ⟨by decide, by decide, by decide, by decide, by decide, fun _ _ h => by cases h; decide, nofun⟩⟩,
   ⟨0, .primary, 0, 9, 0xFC, 0x18, lab .active liveSec, -1000, 40,
     ⟨by decide, by decide, by decide, by decide, by decide, nofun, by decide⟩⟩⟩

theorem witness_SampleAtImaxTripsTheSection :
    ∃ (i : SecNo) (t1 t0 c1 c0 : Byte) (s : State), s.Working ∧ s.mode ≠ .observe ∧ (s.secEntry i).active = true ∧
    (s.sec i).sel.state = .usingPrimary ∧ (s.sec i).ctl.state = .live ∧ (s.sec i).rcl.phase = .idle ∧ (∀ ip tp,
    (s.sec i).feed.prev = some (ip, tp) → tp ≠ t1 ++ t0) ∧ (s.setOf i).imax ≤ (max (-3000) (min 7000 (c1 ++ c0 :
    BitVec 16).toInt)).natAbs ∧ s.liveIncident i = none :=
  ⟨0, 0, 9, 0x17, 0x70, lab .active liveSec,
     ⟨by decide, by decide, by decide, by decide, by decide, by decide, nofun, by decide, by decide⟩⟩

theorem witness_StaleAndBlindExpiries :
    (∃ (i : SecNo) (s : State) (r : SourceRole), s.held = false ∧ s.SuppliesTold ∧ dueNow s.partTime ((s.sec
    i).source r).stale = true ∧ (s.sec i).activeSource ≠ some r) ∧
    (∃ (i : SecNo) (s : State), s.held = false ∧ s.SuppliesTold ∧ dueNow s.partTime (s.sec i).prim.stale = true ∧
    (s.sec i).sel.state = .usingPrimary ∧ (s.secEntry i).secondary = false ∧ (s.sec i).rcl.phase ≠ .gating) ∧
    (∃ (i : SecNo) (s : State), s.held = false ∧ s.SuppliesTold ∧ (s.sec i).sel.state = .blind ∧ dueNow s.partTime
    (s.sec i).sel.blindExpiry = true ∧ (s.sec i).ctl.state.trippable = false) ∧
    (∃ (i : SecNo) (s : State), s.held = false ∧ s.SuppliesTold ∧ (s.sec i).sel.state = .blind ∧ dueNow s.partTime
    (s.sec i).sel.blindExpiry = true ∧ (s.sec i).ctl.state = .live ∧ s.mode ≠ .observe ∧ (s.secEntry i).active =
    true ∧ (s.sec i).rcl.phase = .idle ∧ s.liveIncident i = none) :=
  ⟨⟨0,
     lab .active { liveSec with seco := { last := some (3, 0), run := 8, fresh := true, stale := some (due 10) } },
     .secondary, by decide⟩,
   ⟨0,
     lab .active { liveSec with prim := { last := some (3, 0), run := 8, fresh := true, stale := some (due 10) } },
     by decide⟩,
   ⟨0,
     lab .active { coldSec with sel := { coldSelector with blindSince := some 3000, blindExpiry := some (due 2000) }, ctl := ctl .dead .opened },
     by decide⟩,
   ⟨0,
     lab .active { coldSec with sel := { coldSelector with blindSince := some 3000, blindExpiry := some (due 2000) }, ctl := ctl .live .closed },
     by decide⟩⟩

theorem witness_CommandedCloseEnds :
    (∃ (i : SecNo) (o : PendingOrder) (s : State), s.held = false ∧ (s.sec i).ctl.state = .closing ∧ (s.sec
    i).ctl.pending = some o ∧ o.origin = .command ∧ s.loading = false ∧ (s.secEntry i).active = true ∧
    s.NotBlindOverdue i) ∧
    (∃ (i : SecNo) (o : PendingOrder) (s : State), s.held = false ∧ (s.sec i).ctl.state = .closing ∧ (s.sec
    i).ctl.pending = some o ∧ o.origin = .command ∧ s.SuppliesTold ∧ o.expiry.due s.partTime = true) :=
  ⟨⟨0, orderOf .close .command none,
     lab .active (sighted (ctlWith .closing .opened (orderOf .close .command none))), by decide⟩,
   ⟨0, orderOf .close .command none,
     lab .active (sighted (ctlWith .closing .opened (orderOf .close .command none))), by decide⟩⟩

theorem witness_UnsolicitedReportsMoveTheSection :
    (∃ (i : SecNo) (s : State), s.Working ∧ (s.secEntry i).active = true ∧ s.NotBlindOverdue i ∧ (s.sec i).rcl.phase
    = .idle ∧ (s.sec i).ctl.state = .live) ∧
    (∃ (i : SecNo) (s : State), s.Working ∧ (s.secEntry i).active = true ∧ s.NotBlindOverdue i ∧ (s.sec i).rcl.phase
    = .idle ∧ (s.sec i).ctl.state = .dead ∧ s.station.position = .closed) ∧
    (∃ (i : SecNo) (s : State), s.Working ∧ (s.secEntry i).active = true ∧ s.NotBlindOverdue i ∧ (s.sec i).rcl.phase
    = .idle ∧ (s.sec i).ctl.state = .dead ∧ s.station.position ≠ .closed) :=
  ⟨⟨0, lab .active liveSec, by decide⟩,
   ⟨0, lab .active (sighted (ctl .dead .opened)), by decide⟩,
   ⟨0, labAt .active (stationAt .opened .opened) (sighted (ctl .dead .opened)), by decide⟩⟩

theorem witness_TripConfirmedByAReport :
    (∃ (i : SecNo) (o : PendingOrder) (r : Incident) (s : State), s.Working ∧ (s.secEntry i).active = true ∧ (s.sec i).ctl.state = .tripping ∧
      (s.sec i).ctl.pending = some o ∧ o.origin = .protection ∧ s.liveIncident i = some r ∧
      s.station.position ≠ .closed ∧ (s.sec i).rcl.phase = .idle) ∧
    (∃ (i : SecNo) (o : PendingOrder) (r : Incident) (s : State), s.Working ∧ (s.secEntry i).active = true ∧ (s.sec i).ctl.state = .tripping ∧
      (s.sec i).ctl.pending = some o ∧ o.origin = .protection ∧ s.liveIncident i = some r ∧
      s.station.position ≠ .closed ∧ (s.sec i).rcl.phase = .tripWait) ∧
    (∃ (i : SecNo) (o : PendingOrder) (r : Incident) (s : State) (k : Fin 4) (x : Shot) (t : TripKind × PartTime), s.Working ∧ (s.secEntry i).active = true ∧ (s.sec i).ctl.state = .tripping ∧
      (s.sec i).ctl.pending = some o ∧ o.origin = .protection ∧ s.liveIncident i = some r ∧
      s.station.position = .closed ∧ s.mode = .active ∧ o.kind ≠ some .blind ∧ (s.secEntry i).program = some k ∧
      s.tables.programs[k].shots[(s.sec i).rcl.shots]? = some x ∧ r.lastTrip = some t) ∧
    (∃ (i : SecNo) (o : PendingOrder) (r : Incident) (s : State) (k : Fin 4) (x : Shot) (t : TripKind × PartTime), s.Working ∧ (s.secEntry i).active = true ∧ (s.sec i).ctl.state = .tripping ∧
      (s.sec i).ctl.pending = some o ∧ o.origin = .protection ∧ s.liveIncident i = some r ∧
      s.station.position = .closed ∧ s.mode = .active ∧ o.kind ≠ some .blind ∧ (s.secEntry i).program = some k ∧
      s.tables.programs[k].shots[(s.sec i).rcl.shots]? = some x ∧ r.lastTrip = some t) :=
  ⟨⟨0, tripOrder, trippedNo 8 [fault1],
     withIncidents [trippedNo 8 [fault1]] (labAt .active (stationAt .opened .opened) trippingSec), by decide⟩,
   ⟨0, tripOrder, trippedNo 8 [],
     withIncidents [trippedNo 8 []] (labAt .active (stationAt .tripping .unknown)
       { trippingSec with rcl := { coldReclose with shots := 1, phase := .tripWait } }), by decide⟩,
   ⟨0, tripOrder, trippedNo 8 [], withIncidents [trippedNo 8 []] (lab .active trippingSec), 2, ⟨5, false⟩,
     (.instant, 4900), by decide⟩,
   ⟨0, tripOrder, trippedNo 8 [fault1],
     withIncidents [trippedNo 8 [fault1]] (withVehicles [vehicleNo 1 true] (lab .active
       { trippingSec with rcl := { coldReclose with shots := 2, phase := .tripWait } })), 2, ⟨300, true⟩,
     (.instant, 4900), by decide⟩⟩

theorem witness_SectionCloseIsOrdered :
    (∃ (r : Req) (n : Byte) (i : SecNo) (s : State) (res : Result), s.Working ∧ s.SuppliesTold ∧ s.mayCommand r =
    true ∧ secOf n.toNat = some i ∧ res = (if (s.secEntry i).active = false then .refusedState else if (s.sec
    i).ctl.state = .live then .done else if (s.sec i).ctl.state ≠ .dead then .refusedState else if s.station.state ≠
    .closed ∨ (s.sec i).sel.state = .blind ∨ (s.setOf i).thermalLimit * 500000 ≤ (s.sec i).feed.h then
    .refusedInterlock else if s.mode = .observe then .refusedState else .accepted) ∧ res ≠ .accepted) ∧
    (∃ (r : Req) (n : Byte) (i : SecNo) (s : State) (res : Result), s.Working ∧ s.SuppliesTold ∧ s.mayCommand r =
    true ∧ secOf n.toNat = some i ∧ res = (if (s.secEntry i).active = false then .refusedState else if (s.sec
    i).ctl.state = .live then .done else if (s.sec i).ctl.state ≠ .dead then .refusedState else if s.station.state ≠
    .closed ∨ (s.sec i).sel.state = .blind ∨ (s.setOf i).thermalLimit * 500000 ≤ (s.sec i).feed.h then
    .refusedInterlock else if s.mode = .observe then .refusedState else .accepted) ∧ res ≠ .accepted) ∧
    (∃ (r : Req) (n : Byte) (i : SecNo) (s : State) (res : Result), s.Working ∧ s.SuppliesTold ∧ s.mayCommand r =
    true ∧ secOf n.toNat = some i ∧ res = (if (s.secEntry i).active = false then .refusedState else if (s.sec
    i).ctl.state = .live then .done else if (s.sec i).ctl.state ≠ .dead then .refusedState else if s.station.state ≠
    .closed ∨ (s.sec i).sel.state = .blind ∨ (s.setOf i).thermalLimit * 500000 ≤ (s.sec i).feed.h then
    .refusedInterlock else if s.mode = .observe then .refusedState else .accepted) ∧ res = .accepted ∧
    s.station.position = .closed) :=
  ⟨⟨req, 8, 7, lab .active liveSec, .refusedState, by decide⟩,
   ⟨req, 1, 0, lab .active { sighted (ctl .dead .opened) with feed := { coldFeeder with h := 2500000000 } },
     .refusedInterlock, by decide⟩,
   ⟨req, 1, 0, lab .active { sighted (ctl .dead .opened) with feed := { coldFeeder with h := 2499999999 } },
     .accepted, by decide⟩⟩

theorem witness_SectionOpenIsOrdered :
    (∃ (r : Req) (n kind : Byte) (trip : Bool) (i : SecNo) (s : State), s.Working ∧ s.mayCommand r = true ∧ secOf
    n.toNat = some i ∧ kind = (if trip then 1 else 0) ∧ (s.secEntry i).active = true ∧ s.NotBlindOverdue i ∧ ((s.sec
    i).ctl.state = .live ∨ (s.sec i).ctl.state = .dead ∧ (s.sec i).ctl.position ≠ .opened) ∧ (s.sec i).rcl.phase =
    .idle ∧ s.mode ≠ .observe) ∧
    (∃ (r : Req) (n kind : Byte) (trip : Bool) (i : SecNo) (s : State), s.Working ∧ s.mayCommand r = true ∧ secOf
    n.toNat = some i ∧ kind = (if trip then 1 else 0) ∧ (s.secEntry i).active = true ∧ s.NotBlindOverdue i ∧ ((s.sec
    i).ctl.state = .live ∨ (s.sec i).ctl.state = .dead ∧ (s.sec i).ctl.position ≠ .opened) ∧ (s.sec i).rcl.phase =
    .idle ∧ s.mode ≠ .observe) :=
  ⟨⟨req, 1, 1, true, 0, lab .active liveSec, by decide⟩,
   ⟨req, 1, 0, false, 0, lab .autonomous (sighted (ctl .dead .unknown)), by decide⟩⟩

theorem witness_CommandedOpenEnds :
    (∃ (i : SecNo) (o : PendingOrder) (s : State) (b : Byte), s.Working ∧ (s.secEntry i).active = true ∧
    s.NotBlindOverdue i ∧ (s.sec i).ctl.state = .opening ∧ (s.sec i).ctl.pending = some o ∧ (b = 0 ∨ b = 2)) ∧
    (∃ (i : SecNo) (o : PendingOrder) (s : State), s.Working ∧ (s.secEntry i).active = true ∧ s.NotBlindOverdue i ∧
    (s.sec i).ctl.state = .opening ∧ (s.sec i).ctl.pending = some o ∧ o.expiry.due s.partTime = true) :=
  ⟨⟨0, orderOf .opening .command none,
     lab .active (sighted (ctlWith .opening .closed (orderOf .opening .command none))), 2, by decide⟩,
   ⟨0, orderOf .opening .command none,
     lab .active (sighted (ctlWith .opening .closed (orderOf .opening .command none))), by decide⟩⟩

theorem witness_TripExpiryIsABreakerFailure :
    ∃ (i : SecNo) (o : PendingOrder) (r : Incident) (s : State), s.held = false ∧ (s.sec i).ctl.state = .tripping ∧
    (s.sec i).ctl.pending = some o ∧ o.expiry.due s.partTime = true ∧ s.mode ≠ .observe ∧ s.station.state = .closed ∧
    s.station.position = .closed ∧ s.tables.station.active = true ∧ s.liveIncident i = some r ∧
    (∀ j : SecNo, (s.sec j).rcl.phase ≠ .gating) :=
  ⟨0, tripOrder, trippedNo 8 [fault1],
     withIncidents [trippedNo 8 [fault1]] (withVehicles [vehicleNo 1 true] (lab .active trippingSec)), by decide⟩

theorem witness_SectionResetEndsTheLockout :
    (∃ (r : Req) (n : Byte) (i : SecNo) (s : State), s.Working ∧ s.mayCommand r = true ∧ secOf n.toNat = some i ∧
    (s.secEntry i).active = true ∧ (s.sec i).ctl.state = .lockedOut ∧ s.NotBlindOverdue i) ∧
    (∃ (r : Req) (n : Byte) (i : SecNo) (s : State), s.Working ∧ s.mayCommand r = true ∧ secOf n.toNat = some i ∧
    s.SuppliesTold ∧ ((s.secEntry i).active = false ∨ (s.sec i).ctl.state ≠ .lockedOut)) :=
  ⟨⟨req, 1, 0, lab .observe (sighted (ctl .lockedOut .closed)), by decide⟩,
   ⟨req, 8, 7, lab .active liveSec, by decide⟩⟩

theorem witness_IsolationAndRelease :
    (∃ (r : Req) (n force : Byte) (i : SecNo) (s : State), s.Working ∧ s.SuppliesTold ∧ s.mayCommand r = true ∧
    secOf n.toNat = some i ∧ (s.secEntry i).active = true ∧ (s.sec i).ctl.state = .dead ∧ (s.sec i).ctl.position =
    .opened ∧ (force = 0 ∧ s.polesUpIn i = false ∨ force = 1)) ∧
    (∃ (r : Req) (n force : Byte) (i : SecNo) (s : State), s.Working ∧ s.SuppliesTold ∧ s.mayCommand r = true ∧
    secOf n.toNat = some i ∧ (s.secEntry i).active = true ∧ (s.sec i).ctl.state = .dead ∧ (s.sec i).ctl.position =
    .opened ∧ (force = 0 ∧ s.polesUpIn i = false ∨ force = 1)) ∧
    (∃ (r : Req) (n : Byte) (i : SecNo) (s : State), s.Working ∧ s.SuppliesTold ∧ s.mayCommand r = true ∧ secOf
    n.toNat = some i ∧ (s.secEntry i).active = true ∧ (s.sec i).ctl.state = .isolated) :=
  ⟨⟨req, 1, 0, 0, lab .observe (sighted (ctl .dead .opened)), by decide⟩,
   ⟨req, 1, 1, 0, withVehicles [vehicleNo 9999 true] (lab .active (sighted (ctl .dead .opened))), by decide⟩,
   ⟨req, 1, 0, lab .active (sighted (ctl .isolated .opened)), by decide⟩⟩

theorem witness_StationPositionMovesTheSections :
    (∃ (s : State), s.Working ∧ s.Lawful ∧ s.station.state = .closed ∧ s.station.position = .closed) ∧
    (∃ (s : State), s.Working ∧ s.station.state = .opened ∧ s.station.position ≠ .closed ∧ (∀ i : SecNo,
    s.NotBlindOverdue i ∧ (s.sec i).rcl.phase ≠ .gating)) :=
  ⟨⟨lab .active liveSec, ⟨by decide, lab_lawful, by decide⟩⟩,
   ⟨labAt .active (stationAt .opened .unknown) (sighted (ctl .dead .closed)), by decide⟩⟩

theorem witness_StationCloseIsOrdered :
    (∃ (r : Req) (s : State), s.Working ∧ s.SuppliesTold ∧ s.mayCommand r = true ∧ s.tables.station.active = true ∧
    s.station.state = .opened ∧ (∃ i : SecNo, (s.sec i).ctl.state = .lockedOut ∧ (s.sec i).ctl.reason =
    .breakerFailure ∧ (s.sec i).ctl.tripLine = true)) ∧
    (∃ (r : Req) (s : State), s.Working ∧ s.SuppliesTold ∧ s.mayCommand r = true ∧ s.tables.station.active = true ∧
    s.station.state = .opened ∧ (∀ i : SecNo, ¬((s.sec i).ctl.state = .lockedOut ∧ (s.sec i).ctl.reason =
    .breakerFailure ∧ (s.sec i).ctl.tripLine = true) ∧ (s.sec i).rcl.phase ≠ .gating) ∧ s.mode ≠ .observe) :=
  ⟨⟨req,
     labAt .active (stationAt .opened .opened) (sighted { ctl .lockedOut .closed with reason := .breakerFailure, tripLine := true }),
     by decide⟩,
   ⟨req,
     labAt .active (stationAt .opened .opened) (sighted { ctl .lockedOut .closed with reason := .breakerFailure }),
     by decide⟩⟩

theorem witness_StationOpenIsOrdered :
    (∃ (r : Req) (kind : Byte) (trip : Bool) (s : State) (res : Result), s.Working ∧ s.SuppliesTold ∧
      s.mayCommand r = true ∧ kind = (if trip then 1 else 0) ∧ res = (if s.tables.station.active = false ∨ s.mode = .observe
        then .refusedState
        else if s.station.state = .closed ∨ s.station.state = .closing then .accepted
        else if s.station.state = .opened ∧ s.station.position = .opened then .done
        else .refusedState) ∧ res ≠ .accepted) ∧
    (∃ (r : Req) (kind : Byte) (trip : Bool) (s : State) (res : Result), s.Working ∧ s.SuppliesTold ∧
      s.mayCommand r = true ∧ kind = (if trip then 1 else 0) ∧ res = (if s.tables.station.active = false ∨ s.mode = .observe
        then .refusedState
        else if s.station.state = .closed ∨ s.station.state = .closing then .accepted
        else if s.station.state = .opened ∧ s.station.position = .opened then .done
        else .refusedState) ∧ res ≠ .accepted) ∧
    (∃ (r : Req) (kind : Byte) (trip : Bool) (s : State) (res : Result), s.Working ∧ s.SuppliesTold ∧
      s.mayCommand r = true ∧ kind = (if trip then 1 else 0) ∧ res = (if s.tables.station.active = false ∨ s.mode = .observe
        then .refusedState
        else if s.station.state = .closed ∨ s.station.state = .closing then .accepted
        else if s.station.state = .opened ∧ s.station.position = .opened then .done
        else .refusedState) ∧ res = .accepted ∧
      ∀ i : SecNo, (s.sec i).rcl.phase ≠ .gating) ∧
    (∃ (r : Req) (kind : Byte) (trip : Bool) (s : State) (res : Result), s.Working ∧ s.SuppliesTold ∧
      s.mayCommand r = true ∧ kind = (if trip then 1 else 0) ∧ res = (if s.tables.station.active = false ∨ s.mode = .observe
        then .refusedState
        else if s.station.state = .closed ∨ s.station.state = .closing then .accepted
        else if s.station.state = .opened ∧ s.station.position = .opened then .done
        else .refusedState) ∧ res = .accepted ∧
      ∀ i : SecNo, (s.sec i).rcl.phase ≠ .gating) :=
  ⟨⟨req, 0, false, labAt .observe (stationAt .opened .opened) liveSec, .refusedState, by decide⟩,
   ⟨req, 1, true, labAt .active (stationAt .opened .opened) liveSec, .done, by decide⟩,
   ⟨req, 1, true, lab .active liveSec, .accepted, by decide⟩,
   ⟨req, 0, false, labAt .autonomous (stationAt .closing .unknown) liveSec, .accepted, by decide⟩⟩

theorem witness_StationResetRecoversFromFailed :
    (∃ (r : Req) (s : State), s.Working ∧ s.SuppliesTold ∧ s.mayCommand r = true ∧ s.station.state = .failed ∧ (∀ i
    : SecNo, (s.sec i).rcl.phase ≠ .gating)) ∧
    (∃ (r : Req) (s : State), s.Working ∧ s.SuppliesTold ∧ s.mayCommand r = true ∧ s.station.state ≠ .failed) :=
  ⟨⟨req, labAt .observe (stationAt .failed .unknown) liveSec, by decide⟩,
   ⟨req, lab .active liveSec, by decide⟩⟩

theorem witness_StationExpiriesFailTheOrder :
    (∃ (o : PendingOrder) (s : State), s.held = false ∧ s.SuppliesTold ∧ s.station.pending = some o ∧ o.expiry.due
    s.partTime = true ∧ (∀ i : SecNo, (s.sec i).rcl.phase ≠ .gating) ∧ s.station.state = .closing ∧ o.origin =
    .command) ∧
    (∃ (o : PendingOrder) (s : State), s.held = false ∧ s.SuppliesTold ∧ s.station.pending = some o ∧ o.expiry.due
    s.partTime = true ∧ (∀ i : SecNo, (s.sec i).rcl.phase ≠ .gating) ∧ s.station.state = .tripping ∧ o.origin =
    .command) ∧
    (∃ (o : PendingOrder) (s : State), s.held = false ∧ s.SuppliesTold ∧ s.station.pending = some o ∧ o.expiry.due
    s.partTime = true ∧ (∀ i : SecNo, (s.sec i).rcl.phase ≠ .gating) ∧ s.station.state = .tripping ∧ o.origin =
    .backup) :=
  ⟨⟨orderOf .close .command none, labAt .active (stationWith .closing (orderOf .close .command none)) liveSec,
     by decide⟩,
   ⟨orderOf .trip .command none, labAt .active (stationWith .tripping (orderOf .trip .command none)) liveSec,
     by decide⟩,
   ⟨orderOf .trip .backup none, labAt .active (stationWith .tripping (orderOf .trip .backup none)) liveSec,
     by decide⟩⟩

theorem witness_DeadTimeExpiryBeginsTheShot :
    (∃ (i : SecNo) (s : State), s.held = false ∧ dueNow s.partTime (s.sec i).rcl.dead = true ∧ (s.sec i).rcl.phase =
    .gating ∧ (s.sec i).rcl.holdOverdue = false ∧ s.SuppliesTold ∧ ((s.sec i).rcl.gates.window = false ∨ (s.sec
    i).rcl.gates.vehicles = false ∨ (s.sec i).rcl.gates.thermal = false ∨ (s.sec i).rcl.gates.source = false ∨
    (s.sec i).rcl.gates.station = false)) ∧
    (∃ (i : SecNo) (s : State) (n : Nat), s.held = false ∧ dueNow s.partTime (s.sec i).rcl.dead = true ∧ (s.sec
    i).rcl.phase = .gating ∧ (s.sec i).rcl.holdOverdue = false ∧ (s.sec i).rcl.gates.window = true ∧ (s.sec
    i).rcl.gates.vehicles = true ∧ (s.sec i).rcl.gates.thermal = true ∧ (s.sec i).rcl.gates.source = true ∧ (s.sec
    i).rcl.gates.station = true ∧ (s.sec i).rcl.nextShot = some n ∧ s.exceedsLimit i n = false ∧ (s.shotOf i n).any
    Shot.test = false ∧ (s.sec i).ctl.state = .waiting ∧ s.mode ≠ .observe ∧ s.closeAllowed i = true) :=
  ⟨⟨0, lab .active (inPhase (ctl .waiting .opened) .gating), by decide⟩,
   ⟨0,
     lab .active { inPhase (ctl .waiting .opened) .gating with rcl := { (inPhase (ctl .waiting .opened) .gating).rcl with gates := otherGates } },
     1, by decide⟩⟩

theorem witness_HoldAndReclaimExpiries :
    (∃ (i : SecNo) (s : State), s.held = false ∧ s.SuppliesTold ∧ dueNow s.partTime (s.sec i).rcl.hold = true ∧
      (s.sec i).rcl.phase ≠ .gating) ∧
    (∃ (i : SecNo) (s : State), s.held = false ∧ s.SuppliesTold ∧ dueNow s.partTime (s.sec i).rcl.hold = true ∧
      (s.sec i).rcl.gates.vehicles = true) ∧
    (∃ (i : SecNo) (r : Incident) (s : State), s.held = false ∧ dueNow s.partTime (s.sec i).rcl.hold = true ∧
      (s.sec i).rcl.phase = .gating ∧ (s.sec i).rcl.gates.vehicles = false ∧ s.liveIncident i = some r) ∧
    (∃ (i : SecNo) (r : Incident) (s : State), s.held = false ∧ (s.sec i).rcl.phase = .reclaim ∧
      dueNow s.partTime (s.sec i).rcl.reclaim = true ∧ s.liveIncident i = some r) :=
  ⟨⟨0, lab .active (testingSec 1 false), by decide⟩,
   ⟨0, lab .active (gatingSec otherGates), by decide⟩,
   ⟨0, trippedNo 8 [fault1], withIncidents [trippedNo 8 [fault1]] (withVehicles [vehicleNo 1 true]
     (lab .active (gatingSec { otherGates with vehicles := false }))), by decide⟩,
   ⟨0, incidentNo 8 .opened, withIncidents [incidentNo 8 .opened] (lab .active (inPhase (ofEight .live .closed) .reclaim)),
     by decide⟩⟩

theorem witness_LineTestsAreJudgedInTesting :
    (∃ (i : SecNo) (s : State), s.Working ∧ (s.secEntry i).active = true ∧ s.SuppliesTold ∧
      (s.sec i).rcl.phase ≠ .testing) ∧
    (∃ (i : SecNo) (a b : Byte) (s : State) (p : Program), s.Working ∧ (s.secEntry i).active = true ∧
      s.programOf i = some p ∧ (s.sec i).rcl.phase = .testing ∧ (s.sec i).ctl.state = .testing ∧
      a ++ b ≠ (0xFFFF : BitVec 16) ∧ p.testMin ≤ (a ++ b : BitVec 16).toNat ∧ s.mode ≠ .observe ∧
      s.closeAllowed i = true) ∧
    (∃ (i : SecNo) (a b : Byte) (s : State) (c : Instr) (r : Incident) (why : SecReason), s.Working ∧ (s.secEntry i).active = true ∧
      (s.sec i).rcl.phase = .testing ∧ s.mode ≠ .observe ∧ s.liveIncident i = some r ∧
      (c = .lineTestResult (.sec i) [a, b] ∧
          (a ++ b = (0xFFFF : BitVec 16) ∨ ∃ p, s.programOf i = some p ∧ (a ++ b : BitVec 16).toNat < p.testMin) ∨
        c = .lineTestExpiry i ∧ dueNow s.partTime (s.sec i).rcl.lineTest = true) ∧
      (s.limitReached i = true ∧ why = .shotsExhausted ∨ s.limitReached i = false ∧ (s.sec i).rcl.holdOverdue = true ∧
        (∃ x ∈ r.vehicles, s.polesDownOrGone x.vehicle = false) ∧ why = .vehicleHoldExpired)) ∧
    (∃ (i : SecNo) (a b : Byte) (s : State) (c : Instr) (r : Incident) (why : SecReason), s.Working ∧ (s.secEntry i).active = true ∧
      (s.sec i).rcl.phase = .testing ∧ s.mode ≠ .observe ∧ s.liveIncident i = some r ∧
      (c = .lineTestResult (.sec i) [a, b] ∧
          (a ++ b = (0xFFFF : BitVec 16) ∨ ∃ p, s.programOf i = some p ∧ (a ++ b : BitVec 16).toNat < p.testMin) ∨
        c = .lineTestExpiry i ∧ dueNow s.partTime (s.sec i).rcl.lineTest = true) ∧
      (s.limitReached i = true ∧ why = .shotsExhausted ∨ s.limitReached i = false ∧ (s.sec i).rcl.holdOverdue = true ∧
        (∃ x ∈ r.vehicles, s.polesDownOrGone x.vehicle = false) ∧ why = .vehicleHoldExpired)) ∧
    (∃ (i : SecNo) (a b : Byte) (s : State) (c : Instr) (r : Incident) (k : Fin 4) (x : Shot), s.Working ∧ (s.secEntry i).active = true ∧
      (s.sec i).rcl.phase = .testing ∧ s.mode ≠ .observe ∧ s.liveIncident i = some r ∧
      (c = .lineTestResult (.sec i) [a, b] ∧
          (a ++ b = (0xFFFF : BitVec 16) ∨ ∃ p, s.programOf i = some p ∧ (a ++ b : BitVec 16).toNat < p.testMin) ∨
        c = .lineTestExpiry i ∧ dueNow s.partTime (s.sec i).rcl.lineTest = true) ∧
      s.mode = .active ∧ (s.secEntry i).program = some k ∧ s.tables.programs[k].shots[(s.sec i).rcl.shots]? = some x ∧
      ((s.sec i).rcl.holdOverdue = false ∨ ∀ y ∈ r.vehicles, s.polesDownOrGone y.vehicle = true)) ∧
    (∃ (i : SecNo) (a b : Byte) (s : State) (c : Instr) (r : Incident) (k : Fin 4) (x : Shot), s.Working ∧ (s.secEntry i).active = true ∧
      (s.sec i).rcl.phase = .testing ∧ s.mode ≠ .observe ∧ s.liveIncident i = some r ∧
      (c = .lineTestResult (.sec i) [a, b] ∧
          (a ++ b = (0xFFFF : BitVec 16) ∨ ∃ p, s.programOf i = some p ∧ (a ++ b : BitVec 16).toNat < p.testMin) ∨
        c = .lineTestExpiry i ∧ dueNow s.partTime (s.sec i).rcl.lineTest = true) ∧
      s.mode = .active ∧ (s.secEntry i).program = some k ∧ s.tables.programs[k].shots[(s.sec i).rcl.shots]? = some x ∧
      ((s.sec i).rcl.holdOverdue = false ∨ ∀ y ∈ r.vehicles, s.polesDownOrGone y.vehicle = true)) :=
  ⟨⟨0, lab .observe liveSec, by decide⟩,
   ⟨0, 0x03, 0xE8, lab .active (testingSec 1 false), defaultProgram3, by decide⟩,
   ⟨0, 0xFF, 0xFF, withIncidents [trippedNo 8 []] (lab .autonomous (testingSec 3 true)), .lineTestResult (.sec 0) [0xFF, 0xFF],
     trippedNo 8 [], .shotsExhausted, by decide, by decide, by decide, by decide, by decide, .inl ⟨rfl, .inl rfl⟩,
     by decide⟩,
   ⟨0, 0, 0, withIncidents [trippedNo 8 [fault1]] (withVehicles [vehicleNo 1 true] (lab .active (testingSec 2 true))),
     .lineTestExpiry 0, trippedNo 8 [fault1], .vehicleHoldExpired, by decide, by decide, by decide, by decide, by decide,
     .inr ⟨rfl, by decide⟩, by decide⟩,
   ⟨0, 0x03, 0xE7, withIncidents [trippedNo 8 []] (lab .active (testingSec 2 false)),
     .lineTestResult (.sec 0) [0x03, 0xE7], trippedNo 8 [], 2, ⟨300, true⟩, by decide, by decide, by decide, by decide,
     by decide, .inl ⟨rfl, .inr ⟨defaultProgram3, by decide⟩⟩, by decide⟩,
   ⟨0, 0, 0, withIncidents [trippedNo 8 [fault1]] (lab .active (testingSec 2 true)), .lineTestExpiry 0,
     trippedNo 8 [fault1], 2, ⟨300, true⟩, by decide, by decide, by decide, by decide, by decide, .inr ⟨rfl, by decide⟩,
     by decide⟩⟩

theorem witness_IncidentWindowsAndClearing :
    (∃ (s : State) (n : Nat) (r : Incident), s.held = false ∧ s.SuppliesTold ∧
      s.record? n = some r ∧ r.state = .opened ∧ dueNow s.partTime r.window = true ∧ 
      ∀ i : SecNo, r.object = .sec i → (s.sec i).ctl.incident = some n → (s.sec i).rcl.phase ≠ .gating) ∧
    (∃ (s : State) (n : Nat) (r : Incident) (i : SecNo), s.held = false ∧ s.SuppliesTold ∧
      s.record? n = some r ∧ r.state = .opened ∧ dueNow s.partTime r.window = true ∧ 
      r.object = .sec i ∧ (s.sec i).ctl.incident = some n ∧ (s.sec i).rcl.phase = .gating ∧
      ((s.sec i).rcl.holdOverdue = false ∨ (s.sec i).rcl.gates.vehicles = true) ∧
      ((s.sec i).rcl.gates.deadTime = false ∨ (s.sec i).rcl.gates.vehicles = false ∨
        (s.sec i).rcl.gates.thermal = false ∨ (s.sec i).rcl.gates.source = false ∨
        (s.sec i).rcl.gates.station = false)) ∧
    (∃ (s : State) (r : Req), s.held = false ∧ s.SuppliesTold ∧ s.loading = false ∧ s.mayManage r = true) :=
  ⟨⟨withIncidents [incidentNo 8 .opened] (lab .active (sighted (ofEight .closing .opened))), 8, incidentNo 8 .opened,
     by decide⟩,
   ⟨withIncidents [incidentNo 8 .opened] (lab .active (gatingSec { otherGates with window := false })), 8,
     incidentNo 8 .opened, 0, by decide⟩,
   ⟨withIncidents [incidentNo 7 .closed, incidentNo 8 .opened] (lab .active liveSec), req, by decide⟩⟩

theorem witness_VehicleStatusIsTaken :
    (∃ (h l m c : Byte) (st : VehState) (s : State), s.Working ∧ vehStateOf c = some st ∧ m.toNat ≤ 8 ∧ 1 ≤ read16 h
    l ∧ read16 h l ≤ 9999 ∧ s.SuppliesTold ∧ s.vehicle? (read16 h l) = none ∧ s.vehicles.entries.length < 48 ∧
    s.settings.admitReports ≠ 1) ∧
    (∃ (h l m c : Byte) (st : VehState) (s : State) (v : Vehicle), s.Working ∧ vehStateOf c = some st ∧ m.toNat ≤ 8
    ∧ 1 ≤ read16 h l ∧ read16 h l ≤ 9999 ∧ s.vehicle? (read16 h l) = some v ∧ v.admitted = false ∧ v.faults = [] ∧
    v.attributed = 0) :=
  ⟨⟨0x27, 0x0F, 8, 2, .polesDown, withVehicles [vehicleNo 1 true] (lab .active liveSec), by decide⟩,
   ⟨0, 1, 0, 0, .running, withVehicles [vehicleNo 1 false, vehicleNo 5 true] (lab .active liveSec),
     vehicleNo 1 false, by decide⟩⟩

theorem witness_VehiclesAreRemoved :
    (∃ (n : Nat) (v : Vehicle) (s : State), s.held = false ∧ s.SuppliesTold ∧ s.vehicle? n = some v ∧ v.admitted =
    false ∧ dueNow s.partTime v.admission = true) ∧
    (∃ (n : Nat) (v : Vehicle) (s : State), s.held = false ∧ s.SuppliesTold ∧ s.vehicle? n = some v ∧ v.admitted =
    true ∧ v.attributed = 0 ∧ dueNow s.partTime v.silence = true) ∧
    (∃ (n : Nat) (v : Vehicle) (s : State) (r : Req) (w : BitVec 16), s.held = false ∧ s.SuppliesTold ∧ s.vehicle? n
    = some v ∧ s.loading = false ∧ s.mayCommand r = true ∧ w.toNat = n ∧ 1 ≤ n ∧ n ≤ 9999 ∧ v.admitted = true ∧
    v.attributed = 0) ∧
    (∃ (n : Nat) (v : Vehicle) (s : State) (r : Req) (w : BitVec 16), s.held = false ∧ s.SuppliesTold ∧ s.vehicle? n
    = some v ∧ s.loading = false ∧ s.mayCommand r = true ∧ w.toNat = n ∧ 1 ≤ n ∧ n ≤ 9999 ∧ v.admitted = true ∧ 0 <
    v.attributed) :=
  ⟨⟨1, vehicleNo 1 false, withVehicles [vehicleNo 1 false, vehicleNo 5 true] (lab .active liveSec), by decide⟩,
   ⟨5, vehicleNo 5 true, withVehicles [vehicleNo 1 false, vehicleNo 5 true] (lab .active liveSec), by decide⟩,
   ⟨9999, vehicleNo 9999 true, withVehicles [vehicleNo 9999 true] (lab .active liveSec), req, 9999, by decide⟩,
   ⟨1, { vehicleNo 1 true with attributed := 1 },
     withVehicles [{ vehicleNo 1 true with attributed := 1 }] (lab .active liveSec), req, 1, by decide⟩⟩

theorem witness_PointReportsAndThrowExpiry :
    (∃ (p : PointNo) (l : Leg) (s : State), s.Working ∧ s.SuppliesTold ∧ (s.pointEntry p).active = true ∧ (s.point
    p).activity ≠ .failed ∧ (s.point p).candidate ≠ some l.blade) ∧
    (∃ (p : PointNo) (l : Leg) (s : State) (m : Motion), s.Working ∧ s.SuppliesTold ∧ (s.pointEntry p).active = true
    ∧ (s.point p).candidate = some l.blade ∧ (s.point p).activity = .throwing ∧ (s.point p).motion = some m ∧ m.leg
    = l ∧ (s.point p).queue = []) ∧
    (∃ (p : PointNo) (s : State), s.Working ∧ s.SuppliesTold ∧ (s.pointEntry p).active = true ∧ (s.point p).activity
    ≠ .failed ∧ (s.point p).queue = []) ∧
    (∃ (p : PointNo) (s : State) (m : Motion), s.Working ∧ s.SuppliesTold ∧ (s.point p).activity = .throwing ∧
    (s.point p).motion = some m ∧ m.expiry.due s.partTime = true ∧ (s.point p).queue = []) :=
  ⟨⟨0, .diverging, withPoint (restPoint .straight) (lab .active liveSec), by decide⟩,
   ⟨0, .straight,
     withPoint { restPoint .unknown with candidate := some .straight, activity := .throwing, motion := some ⟨.straight, .vehicle, due 2000⟩ } (lab .active liveSec),
     ⟨.straight, .vehicle, due 2000⟩, by decide⟩,
   ⟨0, withPoint (restPoint .straight) (lab .active liveSec), by decide⟩,
   ⟨0,
     withPoint { restPoint .unknown with candidate := some .straight, activity := .throwing, motion := some ⟨.straight, .vehicle, due 2000⟩ } (lab .active liveSec),
     ⟨.straight, .vehicle, due 2000⟩, by decide⟩⟩

theorem witness_PassagesMoveTheOccupancy :
    (∃ (p : PointNo) (h l : Byte) (s : State), s.Working ∧ s.SuppliesTold ∧ (s.pointEntry p).active = true ∧ read16
    h l ≤ 9999 ∧ (s.point p).occupancy < 3) ∧
    (∃ (p : PointNo) (h l : Byte) (s : State), s.Working ∧ s.SuppliesTold ∧ (s.pointEntry p).active = true ∧ read16
    h l ≤ 9999 ∧ 3 ≤ (s.point p).occupancy ∧ (s.point p).countError = false) ∧
    (∃ (p : PointNo) (h l : Byte) (s : State), s.Working ∧ s.SuppliesTold ∧ (s.pointEntry p).active = true ∧ read16
    h l ≤ 9999 ∧ (s.point p).queue = [] ∧ read16 h l = 0 ∧ 0 < (s.point p).occupancy) ∧
    (∃ (p : PointNo) (h l : Byte) (s : State) (q : Request), s.Working ∧ s.SuppliesTold ∧ (s.pointEntry p).active =
    true ∧ read16 h l ≤ 9999 ∧ (s.point p).queue = [q] ∧ q.granted ≠ none ∧ q.vehicle = read16 h l ∧ s.vehicle?
    (read16 h l) = none ∧ 0 < (s.point p).occupancy) :=
  ⟨⟨0, 0x27, 0x0F, withPoint { restPoint .straight with occupancy := 2 } (lab .active liveSec), by decide⟩,
   ⟨0, 0, 0, withPoint { restPoint .straight with occupancy := 3 } (lab .active liveSec), by decide⟩,
   ⟨0, 0, 0, withPoint { restPoint .straight with occupancy := 1 } (lab .active liveSec), by decide⟩,
   ⟨0, 0, 7,
     withPoint { restPoint .straight with occupancy := 1, queue := [{ queued 7 with granted := some 0 }] } (lab .active liveSec),
     { queued 7 with granted := some 0 }, by decide⟩⟩

theorem witness_RouteRequestsQueueAndExpire :
    (∃ (p : PointNo) (v1 v0 n : Byte) (s : State), s.Working ∧ s.SuppliesTold ∧ pointOf n.toNat = some p ∧ 1 ≤
    read16 v1 v0 ∧ read16 v1 v0 ≤ 9999 ∧ s.mode = .observe) ∧
    (∃ (p : PointNo) (v1 v0 n : Byte) (s : State), s.Working ∧ s.SuppliesTold ∧ pointOf n.toNat = some p ∧ 1 ≤
    read16 v1 v0 ∧ read16 v1 v0 ≤ 9999 ∧ s.mode ≠ .observe ∧ (s.pointEntry p).active = true ∧ (s.point p).activity ≠
    .failed ∧ (∀ q ∈ (s.point p).queue, q.vehicle ≠ read16 v1 v0) ∧ (s.point p).queue ≠ [] ∧ (s.point
    p).queue.length < 4) ∧
    (∃ (p : PointNo) (v1 v0 n : Byte) (s : State), s.Working ∧ s.SuppliesTold ∧ pointOf n.toNat = some p ∧ 1 ≤
    read16 v1 v0 ∧ read16 v1 v0 ≤ 9999 ∧ s.mode ≠ .observe ∧ (s.pointEntry p).active = true ∧ (s.point p).activity ≠
    .failed ∧ (∀ q ∈ (s.point p).queue, q.vehicle ≠ read16 v1 v0) ∧ 4 ≤ (s.point p).queue.length ∧
    s.settings.gateway ≠ 0) ∧
    (∃ (p : PointNo) (v1 v0 n : Byte) (s : State) (h q : Request) (rest : List Request), s.Working ∧ s.SuppliesTold
    ∧ pointOf n.toNat = some p ∧ 1 ≤ read16 v1 v0 ∧ read16 v1 v0 ≤ 9999 ∧ (s.point p).queue = h :: rest ∧ h.vehicle
    ≠ q.vehicle ∧ rest.find? (fun x => x.vehicle == q.vehicle) = some q ∧ q.life.due s.partTime = true ∧
    s.settings.gateway ≠ 0) :=
  ⟨⟨23, 0x27, 0x0F, 24, lab .observe liveSec, by decide⟩,
   ⟨0, 0, 1, 1,
     withPoint { restPoint .straight with queue := [queued 7, queued 8, queued 9] } (lab .active liveSec),
     by decide⟩,
   ⟨0, 0, 1, 1,
     withPoint { restPoint .straight with queue := [queued 7, queued 8, queued 9, queued 10] } (lab .active liveSec),
     by decide⟩,
   ⟨0, 0, 1, 1, withPoint { restPoint .straight with queue := [queued 7, queued 8] } (lab .active liveSec),
     queued 7, queued 8, [queued 8], by decide⟩⟩

theorem witness_PointCommandsAreObeyed :
    (∃ (r : Req) (n : Byte) (p : PointNo) (l : Leg) (s : State), s.Working ∧ s.SuppliesTold ∧ s.mayCommand r = true
    ∧ pointOf n.toNat = some p ∧ (s.pointEntry p).active = true ∧ (s.point p).queue = [] ∧ (s.point p).activity =
    .atRest ∧ (s.point p).position ≠ l.pos ∧ (s.point p).occupancy = 0 ∧ (s.point p).countError = false ∧ (s.point
    p).obstruction = none ∧ (s.point p).supplyLive = true ∧ ((s.point p).lock = none ∨ (s.point p).lock = some l) ∧
    s.mode ≠ .observe) ∧
    (∃ (r : Req) (n : Byte) (p : PointNo) (l : Leg) (s : State), s.Working ∧ s.SuppliesTold ∧ s.mayCommand r = true
    ∧ pointOf n.toNat = some p ∧ (s.pointEntry p).active = true ∧ (s.point p).queue = [] ∧ (s.point p).activity =
    .atRest ∧ (s.point p).position = l.pos ∧ (s.point p).lock ≠ some l) ∧
    (∃ (r : Req) (n : Byte) (p : PointNo) (s : State), s.Working ∧ s.SuppliesTold ∧ s.mayCommand r = true ∧ pointOf
    n.toNat = some p ∧ (s.pointEntry p).active = true ∧ (s.point p).queue = [] ∧ (s.point p).lock ≠ none) ∧
    (∃ (r : Req) (n : Byte) (p : PointNo) (s : State), s.Working ∧ s.SuppliesTold ∧ s.mayCommand r = true ∧ pointOf
    n.toNat = some p ∧ (s.pointEntry p).active = true ∧ (s.point p).queue = [] ∧ (s.point p).activity = .failed) :=
  ⟨⟨req, 1, 0, .diverging, withPoint (restPoint .straight) (lab .active liveSec), by decide⟩,
   ⟨req, 1, 0, .straight, withPoint (restPoint .straight) (lab .observe liveSec), by decide⟩,
   ⟨req, 1, 0, withPoint { restPoint .straight with lock := some .straight } (lab .active liveSec), by decide⟩,
   ⟨req, 1, 0,
     withPoint { restPoint .unknown with activity := .failed, failure := some .timeout, occupancy := 3 } (lab .active liveSec),
     by decide⟩⟩

theorem witness_SetModeChangesTheMode :
    (∃ (r : Req) (s : State), s.Working ∧ s.mayManage r = true ∧ s.mode = .observe ∧ s.modeRec.silent = false ∧ (∃ i
    : SecNo, (s.secEntry i).active = true) ∧ (∀ i : SecNo, s.NotBlindOverdue i)) ∧
    (∃ (r : Req) (s : State), s.Working ∧ s.mayManage r = true ∧ s.SuppliesTold ∧ s.mode = .active ∧ (∀ i : SecNo,
    (s.sec i).rcl.phase ≠ .gating ∧ (s.sec i).rcl.phase ≠ .testing) ∧ (∀ p : PointNo, (s.point p).queue = [])) :=
  ⟨⟨req, lab .observe (sighted (ctl .dead .closed)), by decide⟩,
   ⟨req, lab .active liveSec, by decide⟩⟩

theorem witness_SilenceAndDayTime :
    (∃ (s : State), s.held = false ∧ s.SuppliesTold ∧ s.mode ≠ .active ∧ dueNow s.partTime s.modeRec.silence = true) ∧
    (∃ (s : State), s.held = false ∧ s.SuppliesTold ∧ s.mode = .active ∧ dueNow s.partTime s.modeRec.silence = true
    ∧ (∀ i : SecNo, s.NotBlindOverdue i ∧ (s.sec i).rcl.phase ≠ .gating)) ∧
    (∃ (s : State) (d : Nat) (t : PartTime), s.held = false ∧ s.SuppliesTold ∧ s.modeRec.dayRef = some (d, t) ∧
    86400000 ≤ elapsed s.partTime t) :=
  ⟨⟨{ lab .observe liveSec with modeRec := { State.reset.modeRec with silence := some (due 3000) } }, by decide⟩,
   ⟨{ lab .active liveSec with modeRec := { State.reset.modeRec with mode := .active, silence := some (due 3000) } },
     by decide⟩,
   ⟨{ lab .active liveSec with partTime := 86400000, modeRec := { State.reset.modeRec with dayRef := some (1, 0) } },
     1, 0, by decide⟩⟩

theorem witness_ReadRequestsChangeOnlyTheAnswer :
    (∃ (r : Req) (s : State) (i : SecNo) (n : BitVec 16) (k : Byte), s.Working ∧ s.SuppliesTold ∧ s.mayManage r =
    true ∧ secOf n.toNat = some i ∧ k.toNat * 43 < (s.sectionBytes i).length) ∧
    (∃ (r : Req) (s : State) (index : Byte) (k : Fin 64), s.Working ∧ s.SuppliesTold ∧ s.mayManage r = true ∧
    index.toNat = k.val) ∧
    (∃ (r : Req) (s : State), s.Working ∧ s.SuppliesTold ∧ s.mayManage r = true ∧ s.incidents.records = []) ∧
    (∃ (r : Req) (s : State) (x : Incident), s.Working ∧ s.SuppliesTold ∧ s.mayManage r = true ∧
    s.incidents.records.getLast? = some x)∧
    (∃ (r : Req) (s : State), s.Working ∧ s.SuppliesTold ∧ s.mayManage r = true) :=
  ⟨⟨req, lab .active liveSec, 0, 1, 2, by decide⟩,
   ⟨req, lab .active liveSec, 63, 63, by decide⟩,
   ⟨req, lab .active liveSec, by decide⟩,
   ⟨req, withIncidents [incidentNo 7 .closed, incidentNo 8 .opened] (lab .active liveSec),
     incidentNo 8 .opened, by decide⟩,
   ⟨req, lab .observe liveSec, by decide⟩⟩

theorem witness_EntriesAreWrittenAndActivated :
    (∃ (r : Req) (index : Byte) (s : State) (k : Fin 64) (bs : List Byte) (x : Binding), s.Working ∧ s.SuppliesTold
    ∧ s.mayManage r = true ∧ index.toNat = k.val ∧ bs.length = 10 ∧ bindingOf bs = some x ∧
    s.tables.binding[k].active = false) ∧
    (∃ (r : Req) (index : Byte) (s : State) (k : Fin 64) (bs : List Byte) (x : Binding), s.Working ∧ s.SuppliesTold
    ∧ s.mayManage r = true ∧ index.toNat = k.val ∧ bs.length = 10 ∧ bindingOf bs = some x ∧
    s.tables.binding[k].active = true) ∧
    (∃ (r : Req) (index : Byte) (s : State) (p : PointNo), s.Working ∧ s.SuppliesTold ∧ s.mayManage r = true ∧
    pointOf index.toNat = some p ∧ (s.pointEntry p).active = false ∧ s.point p = coldPoint) :=
  ⟨⟨req, 63, lab .active liveSec, 63, [0x49, 1, 0, 7, 0x41, 0, 3, 3, 1, 8],
     (bindingOf [0x49, 1, 0, 7, 0x41, 0, 3, 3, 1, 8]).get (by decide), by decide⟩,
   ⟨req, 63, withBinding (labBinding .forward) (lab .active liveSec), 63, [0x49, 1, 0, 7, 0x41, 0, 3, 3, 1, 8],
     (bindingOf [0x49, 1, 0, 7, 0x41, 0, 3, 3, 1, 8]).get (by decide), by decide⟩,
   ⟨req, 24, lab .active liveSec, 23, by decide⟩⟩

theorem witness_ClearCountersZeroesTheCounters :
    ∃ (r : Req) (s : State), s.Working ∧ s.SuppliesTold ∧ s.mayManage r = true :=
  ⟨req, lab .active liveSec, by decide⟩

theorem witness_StoreOperationsBeginOneAtATime :
    (∃ (r : Req) (a : BitVec 16) (n : Byte) (bs : List Byte) (s : State), s.Working ∧ s.SuppliesTold ∧ s.mayManage r
    = true ∧ 1 ≤ n.toNat ∧ n.toNat ≤ 32 ∧ a.toNat + n.toNat ≤ 8192 ∧ bs.length = n.toNat ∧ s.store.op = none ∧
    s.mode = .observe ∧ (∀ i : SecNo, (s.sec i).ctl.state ∉ [.closing, .opening, .tripping]) ∧ s.station.state ∉
    [.closing, .tripping] ∧ (∀ p : PointNo, (s.point p).activity ≠ .throwing)) ∧
    (∃ (r : Req) (a : BitVec 16) (n : Byte) (bs : List Byte) (s : State), s.Working ∧ s.SuppliesTold ∧ s.mayManage r
    = true ∧ 1 ≤ n.toNat ∧ n.toNat ≤ 32 ∧ a.toNat + n.toNat ≤ 8192 ∧ bs.length = n.toNat ∧ s.store.op ≠ none) :=
  ⟨⟨req, 8160, 32, List.replicate 32 0, lab .observe liveSec, by decide⟩,
   ⟨req, 8191, 1, [0],
     withStore { coldStore 0 with op := some .read, requester := some ⟨req, 0x0A⟩ } (lab .active liveSec),
     by decide⟩⟩

theorem witness_StoreTransactionsEndWithAReply :
    (∃ (q : Requester) (x : Expiry) (s : State) (a n : Nat), s.held = false ∧ s.SuppliesTold ∧ s.store.requester =
    some q ∧ s.store.op = some .read ∧ s.store.trans = some (.read a n, x) ∧ x.due s.partTime = true) ∧
    (∃ (q : Requester) (x : Expiry) (s : State) (a : Nat) (bs : List Byte), s.held = false ∧ s.SuppliesTold ∧
    s.store.requester = some q ∧ s.store.op = some .write ∧ s.store.trans = some (.write a bs, x) ∧ Memory.wf
    s.storeMem = true ∧ a + bs.length ≤ 8192)∧
    (∃ (q : Requester) (x : Expiry) (s : State) (a : Nat) (bs : List Byte), s.held = false ∧ s.SuppliesTold ∧
    s.store.requester = some q ∧ s.store.op = some .write ∧ s.store.trans = some (.write a bs, x) ∧ Memory.wf
    s.storeMem = true ∧ x.due s.partTime = true) :=
  ⟨⟨⟨req, 0x0A⟩, due 25,
     withStore { status := .absent, op := some .read, requester := some ⟨req, 0x0A⟩, trans := some (.read 8190 2, due 25) } { lab .active liveSec with storeMem := [(8191, 0x12)] },
     8190, 2, by decide⟩,
   ⟨⟨req, 0x0B⟩, due 25,
     withStore { status := .absent, op := some .write, requester := some ⟨req, 0x0B⟩, trans := some (.write 8190 [1, 0xFF], due 25) } { lab .active liveSec with storeMem := [(8191, 0x12)] },
     8190, [1, 0xFF], by decide⟩,
   ⟨⟨req, 0x0B⟩, due 25,
     withStore { status := .absent, op := some .write, requester := some ⟨req, 0x0B⟩, trans := some (.write 8190 [1, 0xFF], due 25) } { lab .active liveSec with storeMem := [(8191, 0x12)] },
     8190, [1, 0xFF], by decide⟩⟩

theorem witness_WarmRestartKeepsTheRecords :
    ∃ (r : Req) (s : State), s.Working ∧ s.mayManage r = true ∧ s.store.op = none ∧ (∀ i : SecNo, (s.sec
    i).ctl.state ∉ [.closing, .opening, .tripping]) ∧ s.station.state ∉ [.closing, .tripping] ∧ (∀ p : PointNo,
    (s.point p).activity ≠ .throwing) :=
  ⟨req, lab .active (inPhase (ctl .waiting .opened) .gating), by decide⟩

end Sys2Proof.Tests
end

/-! SUPPORT. O26 (R29, R34, R36). A sample writes its section's feeder record once; what the rest of the sample's event
does (the half-limit notice, the trip decision, the alarm checks, the end of the event) leaves H, I_prev and t_prev as
written, and every other section. `FeedStands` says this of one operation; each operation of the event has a lemma that
carries it on. -/

namespace Sys2Proof.Machine

open Sys2Proof

/-! ### What the rest of a sample's event leaves -/

/-- From `s` to `t`, section `i` keeps its thermal value, its last computed sample and its selector record, every other
section stands as it stood, and so do the mode and the background. -/
structure State.FeedStands (i : SecNo) (s t : State) : Prop where
  background : t.background = s.background
  modeRec : t.modeRec = s.modeRec
  others : s.sameSecsBut t i
  thermal : (t.sec i).feed.h = (s.sec i).feed.h
  last : (t.sec i).feed.prev = (s.sec i).feed.prev
  selector : (t.sec i).sel = (s.sec i).sel

namespace State.FeedStands

section
variable {i : SecNo} {s t u : State}

theorem refl : s.FeedStands i s := ⟨rfl, rfl, fun _ _ => rfl, rfl, rfl, rfl⟩

theorem trans (h : s.FeedStands i t) (k : t.FeedStands i u) : s.FeedStands i u where
  background := k.background.trans h.background
  modeRec := k.modeRec.trans h.modeRec
  others := fun j hj => (k.others j hj).trans (h.others j hj)
  thermal := k.thermal.trans h.thermal
  last := k.last.trans h.last
  selector := k.selector.trans h.selector

/-- An operation that touches no section, nor the mode or the background. -/
theorem of_secs (h : s.FeedStands i t) (hb : u.background = t.background) (hm : u.modeRec = t.modeRec)
    (hs : u.secs = t.secs) : s.FeedStands i u :=
  h.trans ⟨hb, hm, fun j _ => u.sec_eq t hs j, by rw [u.sec_eq t hs], by rw [u.sec_eq t hs], by rw [u.sec_eq t hs]⟩

/-- A change of the section's own records that leaves the three that stand. -/
theorem modSec (h : s.FeedStands i t) (f : Sec → Sec) (hh : (f (t.sec i)).feed.h = (t.sec i).feed.h)
    (hp : (f (t.sec i)).feed.prev = (t.sec i).feed.prev) (hx : (f (t.sec i)).sel = (t.sec i).sel) :
    s.FeedStands i (t.modSec i f) :=
  h.trans ⟨rfl, rfl, fun _ hj => t.sec_modSec_of_ne hj.symm f, by simpa using hh, by simpa using hp, by simpa using hx⟩

theorem modFeed (h : s.FeedStands i t) (f : Feeder → Feeder) (hh : (f (t.sec i).feed).h = (t.sec i).feed.h)
    (hp : (f (t.sec i).feed).prev = (t.sec i).feed.prev) : s.FeedStands i (t.modFeed i f) := h.modSec _ hh hp rfl

theorem modCtl (h : s.FeedStands i t) (f : SectionCtl → SectionCtl) : s.FeedStands i (t.modCtl i f) :=
  h.modSec _ rfl rfl rfl

theorem modRcl (h : s.FeedStands i t) (f : Reclose → Reclose) : s.FeedStands i (t.modRcl i f) := h.modSec _ rfl rfl rfl

theorem setSec (h : s.FeedStands i t) (st : SecState) (r : SecReason) : s.FeedStands i (t.setSec i st r) := h.modCtl _

theorem setPending (h : s.FeedStands i t) (p : Option PendingOrder) : s.FeedStands i (t.setPending i p) := h.modCtl _

theorem assertLine (h : s.FeedStands i t) : s.FeedStands i (t.assertLine i) := by
  unfold State.assertLine
  split
  · exact h
  · exact h.modCtl _

theorem queueOrder (h : s.FeedStands i t) (obj : BreakerObj) (k : OrderKind) : s.FeedStands i (t.queueOrder obj k) := by
  unfold State.queueOrder
  split
  · exact h
  · exact h.of_secs rfl rfl rfl

theorem pushNormal (h : s.FeedStands i t) (l : Line) (m : Telegram) : s.FeedStands i (t.pushNormal l m) :=
  h.of_secs (by simp) (by simp) (by simp)

theorem pushAll (h : s.FeedStands i t) (l : Line) (ms : List Telegram) : s.FeedStands i (t.pushAll l ms) :=
  List.foldlRecOn (motive := s.FeedStands i) ms _ h fun _ k m _ => k.pushNormal l m

theorem modVehicles (h : s.FeedStands i t) (f : VehicleTable → VehicleTable) : s.FeedStands i (t.modVehicles f) :=
  h.of_secs rfl rfl rfl

theorem modVehicle (h : s.FeedStands i t) (n : Nat) (f : Vehicle → Vehicle) : s.FeedStands i (t.modVehicle n f) :=
  h.modVehicles _

theorem modRecord (h : s.FeedStands i t) (n : Nat) (f : Incident → Incident) : s.FeedStands i (t.modRecord n f) :=
  h.of_secs rfl rfl rfl

theorem modPoint (h : s.FeedStands i t) (p : PointNo) (f : Point → Point) : s.FeedStands i (t.modPoint p f) :=
  h.of_secs rfl rfl rfl

theorem requestPolesDown (h : s.FeedStands i t) (n incident : Nat) :
    s.FeedStands i (t.requestPolesDown n incident) := by
  unfold State.requestPolesDown
  split
  · exact h
  · split
    · exact h
    · split
      · exact h.modVehicles _
      · exact ((h.pushNormal _ _).modVehicle _ _).modVehicles _

theorem askPolesDown (h : s.FeedStands i t) : s.FeedStands i (t.askPolesDown i) := by
  unfold State.askPolesDown
  split
  · exact h
  · exact List.foldlRecOn (motive := s.FeedStands i) _ _ h fun _ k a _ => k.requestPolesDown _ _

/-! Service of a point's head (R125 to R129) -/

theorem routeTelegram (h : s.FeedStands i t) (kind : Byte) (body : List Byte) :
    s.FeedStands i (t.routeTelegram kind body) := by
  unfold State.routeTelegram
  split
  · exact h.of_secs rfl rfl rfl
  · exact h.pushNormal _ _

theorem refuse (h : s.FeedStands i t) (p : PointNo) (v : Nat) (l : Leg) (r : RouteReason) :
    s.FeedStands i (t.refuse p v l r) := (h.routeTelegram _ _).modPoint _ _

theorem grant (h : s.FeedStands i t) (p : PointNo) (q : Request) (rest : List Request) :
    s.FeedStands i (t.grant p q rest) := (h.routeTelegram _ _).modPoint _ _

theorem throwPoint (h : s.FeedStands i t) (p : PointNo) (l : Leg) (o : ThrowOrigin) :
    s.FeedStands i (t.throwPoint p l o) := (h.pushNormal _ _).modPoint _ _

theorem serveQueue (p : PointNo) (q : List Request) :
    ∀ {t : State}, s.FeedStands i t → s.FeedStands i (t.serveQueue p q) := by
  induction q with
  | nil => exact fun h => h
  | cons head rest ih =>
    intro t h
    have refused (r : RouteReason) := ih ((h.refuse p head.vehicle head.leg r).modPoint p fun x => { x with queue := rest })
    unfold State.serveQueue
    dsimp only
    split
    · exact h
    split
    · exact refused _
    split
    · exact refused _
    split
    · exact refused _
    split
    · split
      · exact h
      · exact h.grant _ _ _
    split
    · exact h
    split
    · exact h.throwPoint _ _ _
    · exact h

end

end State.FeedStands

/-- The same of an event in progress, which began at the same state. -/
structure Ev.FeedStands (i : SecNo) (d e : Ev) : Prop where
  old : e.old = d.old
  state : d.s.FeedStands i e.s

namespace Ev.FeedStands

section
variable {i : SecNo} {d e : Ev}

theorem refl : d.FeedStands i d := ⟨rfl, .refl⟩

theorem mod (h : d.FeedStands i e) {f : State → State} (hf : e.s.FeedStands i (f e.s)) : d.FeedStands i (e.mod f) :=
  ⟨h.old, h.state.trans hf⟩

/-! ### Incidents -/

theorem incidentReport (h : d.FeedStands i e) (m : Telegram) : d.FeedStands i (e.incidentReport m) := ⟨h.old, h.state⟩

theorem reportIncident (h : d.FeedStands i e) (n : Nat) (c : IncCause) : d.FeedStands i (e.reportIncident n c) := by
  unfold Ev.reportIncident
  split
  · exact h
  · exact h.incidentReport _

theorem addIncident (h : d.FeedStands i e) (r : Incident) : d.FeedStands i (e.addIncident r) :=
  (h.mod (.of_secs .refl rfl rfl rfl)).reportIncident _ _

theorem recordClosed (h : d.FeedStands i e) (k : IncKind) (obj : IncObject) (x : Option Detail) (c : Option Captured) :
    d.FeedStands i (e.recordClosed k obj x c) := h.addIncident _

theorem closeIncident (h : d.FeedStands i e) (o : IncOutcome) : d.FeedStands i (e.closeIncident i o) := by
  unfold Ev.closeIncident
  split
  · exact h
  · exact (List.foldlRecOn (motive := d.FeedStands i) _ _ (h.mod (.modRecord .refl _ _))
      fun _ k a _ => k.mod (.modVehicle .refl _ _)).reportIncident _ _

theorem addShot (h : d.FeedStands i e) (n : Nat) (o : ShotOutcome) : d.FeedStands i (e.addShot i n o) := by
  unfold Ev.addShot
  split
  · exact h
  · exact (h.mod (.modRecord .refl _ _)).reportIncident _ _

theorem continueTrip (h : d.FeedStands i e) (n : Nat) (k : TripKind) (c : Option Captured) :
    d.FeedStands i (e.continueTrip n k c) := (h.mod (.modRecord .refl _ _)).reportIncident _ _

/-! ### The reclose unit -/

theorem lockout (h : d.FeedStands i e) (r : SecReason) : d.FeedStands i (e.lockout i r) :=
  (h.mod (.modRcl (.setSec .refl _ _) _)).closeIncident _

theorem startDeadTime (h : d.FeedStands i e) (n : Nat) : d.FeedStands i (e.startDeadTime i n) := by
  unfold Ev.startDeadTime
  dsimp only
  split
  · exact (h.mod (.modRcl (.modRcl (.setSec .refl _ _) _) _)).lockout _
  · exact (h.mod (.modRcl (.modRcl (.setSec .refl _ _) _) _)).mod (.askPolesDown .refl)

theorem shotFailed (h : d.FeedStands i e) (o : ShotOutcome) : d.FeedStands i (e.shotFailed i o) := by
  have ended : d.FeedStands i ((e.addShot i (e.s.sec i).rcl.shots o).mod fun s =>
      s.modRcl i fun r => { r with lineTest := none }) := (h.addShot _ _).mod (.modRcl .refl _)
  unfold Ev.shotFailed
  dsimp only
  split
  · exact ended.lockout _
  split
  · exact ended.lockout _
  · exact ended.startDeadTime _

theorem closeRequest (h : d.FeedStands i e) : d.FeedStands i (e.closeRequest i) := by
  unfold Ev.closeRequest
  split
  · split
    · exact h.mod (.modRcl (.setSec (.setPending (.queueOrder .refl _ _) _) _ _) _)
    · exact h.shotFailed _
  · exact h

theorem beginShot (h : d.FeedStands i e) : d.FeedStands i (e.beginShot i) := by
  unfold Ev.beginShot
  split
  · exact h
  split
  · exact h.lockout _
  dsimp only
  split
  · exact (h.mod (.modRcl .refl _)).mod (.pushNormal (.modRcl (.setSec .refl _ _) _) _ _)
  · exact (h.mod (.modRcl .refl _)).closeRequest

theorem reevaluate (h : d.FeedStands i e) (g : Gate) : d.FeedStands i (e.reevaluate i g) := by
  unfold Ev.reevaluate
  split
  · have judged : d.FeedStands i (e.mod fun s =>
        s.modRcl i fun r => { r with gates := r.gates.put g (s.gateHolds i g) }) := h.mod (.modRcl .refl _)
    dsimp only
    split
    · exact judged.lockout _
    split
    · exact judged.beginShot
    · exact judged
  · exact h

theorem reevaluateIf (h : d.FeedStands i e) (c : Prop) [Decidable c] (g : Gate) :
    d.FeedStands i (if c then e.reevaluate i g else e) := by
  split
  · exact h.reevaluate g
  · exact h

theorem tripInReclaim (h : d.FeedStands i e) : d.FeedStands i (e.tripInReclaim i) := by
  unfold Ev.tripInReclaim
  split
  · exact h.mod (.modRcl .refl _)
  · exact h

theorem retripped (h : d.FeedStands i e) : d.FeedStands i (e.retripped i) :=
  (h.addShot _ _).mod (.modRcl .refl _)

/-! ### Trips -/

theorem attach (h : d.FeedStands i e) (n v : Nat) (f : FaultCode) (located : Bool) :
    d.FeedStands i (e.attach i n v f located) := by
  unfold Ev.attach
  split
  · exact h
  · dsimp only
    refine ((mod ?_ (.requestPolesDown .refl v n)).reevaluateIf _ .vehicles).reportIncident _ _
    split
    · exact h.mod (.modVehicle (.modRecord .refl _ _) _ _)
    · exact h.mod (.modRecord .refl _ _)

theorem openTrip (h : d.FeedStands i e) (k : TripKind) (c : Option Captured) : d.FeedStands i (e.openTrip i k c) :=
  List.foldlRecOn (motive := d.FeedStands i) _ _ ((h.addIncident _).mod (.modCtl .refl _))
    fun _ k _ _ => k.attach _ _ _ _

theorem recordTrip (h : d.FeedStands i e) (k : TripKind) (c : Option Captured) : d.FeedStands i (e.recordTrip i k c) := by
  unfold Ev.recordTrip
  split
  · exact h.continueTrip _ _ _
  · exact h.openTrip _ _

theorem tripDecision (h : d.FeedStands i e) (x : Decision) : d.FeedStands i (e.tripDecision i x) := by
  unfold Ev.tripDecision
  dsimp only
  split
  · split
    · exact ((h.mod (.setSec (.setPending (.assertLine (.queueOrder .refl _ _)) _) _ _)).recordTrip _ _).retripped
    · exact ((h.mod (.setSec (.setPending (.assertLine (.queueOrder .refl _ _)) _) _ _)).recordTrip _ _).tripInReclaim
  · exact h

theorem wouldTrip (h : d.FeedStands i e) (x : Decision) : d.FeedStands i (e.wouldTrip i x) := by
  unfold Ev.wouldTrip
  split
  · exact (h.mod (.modFeed .refl _ rfl rfl)).recordClosed _ _ _ _
  · exact h

theorem giveDecision (h : d.FeedStands i e) (x : Decision) : d.FeedStands i (e.giveDecision i x) := by
  unfold Ev.giveDecision
  split
  · exact h.wouldTrip x
  · exact h.tripDecision x

/-! ### The alarm checks and the half limit -/

theorem checkUnexplained (h : d.FeedStands i e) (current : Int) (saturated : Bool) :
    d.FeedStands i (e.checkUnexplained i current saturated) := by
  unfold Ev.checkUnexplained
  dsimp only
  split
  · exact h.mod (.modFeed .refl _ rfl rfl)
  split
  · exact ((h.mod (.modFeed .refl _ rfl rfl)).mod (.modFeed .refl _ rfl rfl)).recordClosed _ _ _ _
  · exact h.mod (.modFeed .refl _ rfl rfl)

theorem checkReverse (h : d.FeedStands i e) (current : Int) (saturated : Bool) (credit : Nat) :
    d.FeedStands i (e.checkReverse i current saturated credit) := by
  unfold Ev.checkReverse
  dsimp only
  split
  · exact h.mod (.modFeed .refl _ rfl rfl)
  split
  · exact h.mod (.modFeed .refl _ rfl rfl)
  split
  · exact h
  split
  · exact ((h.mod (.modFeed .refl _ rfl rfl)).mod (.modFeed .refl _ rfl rfl)).recordClosed _ _ _ _
  · exact h.mod (.modFeed .refl _ rfl rfl)

theorem tellCrossing (h : d.FeedStands i e) (before : Nat) : d.FeedStands i (e.tellCrossing i before) := by
  unfold Ev.tellCrossing
  dsimp only
  split
  · exact h
  · exact (h.mod (.modFeed .refl _ rfl rfl)).reevaluate _

/-! ### The end of the event -/

theorem serveHead (h : d.FeedStands i e) (p : PointNo) : d.FeedStands i (e.serveHead p) :=
  ⟨by rw [Ev.serveHead_old, h.old], by rw [Ev.serveHead_s]; exact h.state⟩

theorem supplyNotice (h : d.FeedStands i e) (p : PointNo) : d.FeedStands i (e.supplyNotice p) := by
  unfold Ev.supplyNotice
  dsimp only
  split
  · exact h
  split
  · exact (h.mod (.modPoint .refl _ _)).serveHead p
  · exact h.mod (.modPoint .refl _ _)

theorem serveMarked (h : d.FeedStands i e) : d.FeedStands i e.serveMarked := by
  refine List.foldlRecOn (motive := d.FeedStands i) _ _ h fun _ k p _ => ?_
  split
  · exact k.mod (State.FeedStands.serveQueue p _ .refl)
  · exact k

/-- R59: no BLIND decision is due at the end where the section has an active source, the mode is as it was and no other
section has changed. -/
theorem blindPass_eq (h : d.FeedStands i e) (hm : d.s.mode = d.old.mode) (ho : d.old.sameSecsBut d.s i)
    (hx : (d.s.sec i).sel.state ≠ .blind) : e.blindPass = e := by
  refine e.blindPass_of_quiet ?_ fun j => ?_
  · rw [h.old, ← hm, State.mode, h.state.modeRec, State.mode]
  · by_cases hj : j = i
    · subst hj
      exact .inr (.inl (by rw [h.state.selector]; exact hx))
    · exact .inl (by rw [h.state.others j hj, h.old, ho j hj])

theorem finish (h : d.FeedStands i e) (hm : d.s.mode = d.old.mode) (ho : d.old.sameSecsBut d.s i)
    (hx : (d.s.sec i).sel.state ≠ .blind) : d.s.FeedStands i e.finish := by
  have settled : d.FeedStands i e.settle := by
    unfold Ev.settle
    rw [h.blindPass_eq hm ho hx]
    exact serveMarked (List.foldlRecOn (motive := d.FeedStands i) _ _ h fun _ k p _ => k.supplyNotice p)
  exact List.foldlRecOn (motive := d.s.FeedStands i) _ _ (settled.state.pushAll _ _) fun _ k _ _ => k.pushNormal _ _

end

end Ev.FeedStands

/-! ### One sample of the active source -/

/-- R29: the clamped current as the nearest value of the range. -/
theorem clampCurrent_eq (raw : Int) : clampCurrent raw = max (-3000) (min 7000 raw) := by
  unfold clampCurrent
  omega

/-- R34: the thermal value as an integer, held between 0 and H_MAX. -/
theorem thermalAfter_eq (h icont : Nat) (current : Int) (credit : Nat) :
    (thermalAfter h icont current credit : Int) = max 0 (min 1099511627775 (h +
      (((current.natAbs / 10 : Nat) : Int) * ((current.natAbs / 10 : Nat) : Int) -
        ((icont / 10 : Nat) : Int) * ((icont / 10 : Nat) : Int)) * credit)) := by
  unfold thermalAfter hMax
  dsimp only
  generalize (h : Int) + _ * (credit : Int) = total
  omega

/-- R30: a sample that is not a duplicate weighs its ticks, at most 40, and 40 where there is no last sample. -/
theorem Feeder.interval_of_new (f : Feeder) (tick : Tick) (credit : Nat)
    (hsome : ∀ ip tp, f.prev = some (ip, tp) → (tick - tp).toNat ≠ 0 ∧
      credit = if (tick - tp).toNat ≤ 40 then (tick - tp).toNat else 40)
    (hnone : f.prev = none → credit = 40) :
    f.interval tick ≠ .duplicate ∧ (f.interval tick).credit = credit := by
  unfold Feeder.interval
  split
  case h_1 hp => exact ⟨nofun, (hnone hp).symm⟩
  case h_2 ip tp hp =>
    obtain ⟨hd, hc⟩ := hsome ip tp hp
    dsimp only
    rw [if_neg hd, hc, gapTicks]
    split
    · exact ⟨nofun, rfl⟩
    · exact ⟨nofun, rfl⟩

/-- R28: a body of one sample. -/
theorem samplesOf_one (t1 t0 c1 c0 : Byte) :
    samplesOf [1, t1, t0, c1, c0] = some [(t1 ++ t0, (c1 ++ c0).toInt)] := rfl

section
variable (x : Sec) (r : SourceRole) (v : Source)
@[simp] theorem Sec.setSource_feed : (x.setSource r v).feed = x.feed := by cases r <;> rfl
@[simp] theorem Sec.setSource_sel : (x.setSource r v).sel = x.sel := by cases r <;> rfl
@[simp] theorem Sec.setSource_activeSource : (x.setSource r v).activeSource = x.activeSource := by cases r <;> rfl
end

/-- R52: a section with an active source is not BLIND. -/
theorem Sec.not_blind_of_activeSource {x : Sec} {r : SourceRole} (h : x.activeSource = some r) :
    x.sel.state ≠ .blind := by
  intro hb
  simp [Sec.activeSource, hb] at h

/-- R54, R55: a sample of the active source does not change the selector state. -/
theorem Ev.afterSample_of_active (e : Ev) (i : SecNo) (r : SourceRole) (h : (e.s.sec i).activeSource = some r) :
    e.afterSample i r = e := by
  unfold Sec.activeSource at h
  unfold Ev.afterSample
  dsimp only
  split at h
  case h_1 hs => cases h; simp [hs]
  case h_2 hs => cases h; simp [hs]
  case h_3 => cases h

/-- R50: the event with a sample taken into its source record. -/
def Ev.sourced (e : Ev) (i : SecNo) (r : SourceRole) (tick : Tick) : Ev :=
  e.mod fun s => s.modSec i fun x => x.setSource r ((x.source r).take tick s.partTime)

theorem Ev.sourced_feedStands (e : Ev) (i : SecNo) (r : SourceRole) (tick : Tick) :
    e.FeedStands i (e.sourced i r tick) := .mod .refl (.modSec .refl _ (by simp) (by simp) (by simp))

theorem Ev.sourced_feed (e : Ev) (i : SecNo) (r : SourceRole) (tick : Tick) :
    ((e.sourced i r tick).s.sec i).feed = (e.s.sec i).feed := by simp [Ev.sourced]

theorem Ev.sourced_setOf (e : Ev) (i : SecNo) (r : SourceRole) (tick : Tick) :
    (e.sourced i r tick).s.setOf i = e.s.setOf i := rfl

/-- R28: a sample of the active source is taken into its record and handed on to the protection unit. -/
theorem Ev.takeSample_of_active (e : Ev) (i : SecNo) (r : SourceRole) (tick : Tick) (raw : Int)
    (h : (e.s.sec i).activeSource = some r) :
    e.takeSample i r (tick, raw) = (e.sourced i r tick).compute i tick raw := by
  have active : ((e.sourced i r tick).s.sec i).activeSource = some r := by simp [Ev.sourced, h]
  unfold Ev.takeSample
  dsimp only
  rw [show (e.mod fun s => s.modSec i fun x => x.setSource r ((x.source r).take tick s.partTime)) =
    e.sourced i r tick from rfl, Ev.afterSample_of_active _ i r active, if_pos active]

/-- R36: the event with the section's feeder record as stages 1 to 6 leave it. -/
def Ev.recorded (e : Ev) (i : SecNo) (tick : Tick) (raw : Int) : Ev :=
  e.mod fun s => s.modFeed i fun f =>
    (f.compute (s.setOf i) tick (clampCurrent raw) (clampCurrent raw != raw) (f.interval tick)).1

section
variable (e : Ev) (i : SecNo) (tick : Tick) (raw : Int)

theorem Ev.recorded_h : ((e.recorded i tick raw).s.sec i).feed.h =
    thermalAfter (e.s.sec i).feed.h (e.s.setOf i).icont (clampCurrent raw) ((e.s.sec i).feed.interval tick).credit := by
  simp [Ev.recorded, State.modFeed, Feeder.compute]

theorem Ev.recorded_prev : ((e.recorded i tick raw).s.sec i).feed.prev = some (clampCurrent raw, tick) := by
  simp [Ev.recorded, State.modFeed, Feeder.compute]

theorem Ev.recorded_sel : ((e.recorded i tick raw).s.sec i).sel = (e.s.sec i).sel := by
  simp [Ev.recorded, State.modFeed]

theorem Ev.recorded_others : e.s.sameSecsBut (e.recorded i tick raw).s i := fun _ hj =>
  e.s.sec_modSec_of_ne hj.symm _

/-- R28, R35 to R42: what follows the record of a sample that is not a duplicate: the half-limit notice, the decision and
the alarm checks. -/
theorem Ev.compute_feedStands (h : (e.s.sec i).feed.interval tick ≠ .duplicate) :
    (e.recorded i tick raw).FeedStands i (e.compute i tick raw) := by
  have told := (Ev.FeedStands.refl (d := e.recorded i tick raw)).tellCrossing (i := i) (e.s.sec i).feed.h
  unfold Ev.compute
  dsimp only
  rw [if_neg h]
  refine (Ev.FeedStands.checkUnexplained ?_ _ _).checkReverse _ _ _
  split
  · exact told
  · exact told.giveDecision _

end

/-- R28: an active section takes a sample of the active source whose role its entry has. -/
theorem Ev.sampleTelegram_one (e : Ev) (i : SecNo) (r : SourceRole) (t1 t0 c1 c0 : Byte)
    (ha : (e.s.secEntry i).active = true) (hsec : r = .secondary → (e.s.secEntry i).secondary = true) :
    e.sampleTelegram i r (samplesOf [1, t1, t0, c1, c0]) = e.takeSample i r (t1 ++ t0, (c1 ++ c0).toInt) := by
  have configured : ¬(r = .secondary ∧ (e.s.secEntry i).secondary = false) := fun ⟨hr, hs⟩ => by
    simp [hsec hr] at hs
  rw [samplesOf_one]
  simp only [Ev.sampleTelegram, ha, Bool.not_true, Bool.false_eq_true, if_false, if_neg configured, List.foldl_cons,
    List.foldl_nil]

/-- R28, R152: SAMPLE where the part takes deliveries: one event. -/
theorem exec_sample_of_working (s : State) (i : SecNo) (r : SourceRole) (body : List Byte) (hw : s.Working) :
    exec (.sample i r body) s = .next ((Ev.start s).sampleTelegram i r (samplesOf body)).finish := by
  obtain ⟨held, loading⟩ := hw
  have arm : exec (.sample i r body) s = execSample i r body s := rfl
  simp only [arm, execSample, State.delivery, State.running, held, loading, Bool.false_eq_true, if_false]

/-- R28, R50: SAMPLE with one sample of the active source: it is taken into its record and computed on. -/
theorem exec_sample_of_active (s : State) (i : SecNo) (r : SourceRole) (t1 t0 c1 c0 : Byte) (hw : s.Working)
    (ha : (s.secEntry i).active = true) (hact : (s.sec i).activeSource = some r)
    (hsec : r = .secondary → (s.secEntry i).secondary = true) :
    exec (.sample i r [1, t1, t0, c1, c0]) s =
      .next (((Ev.start s).sourced i r (t1 ++ t0)).compute i (t1 ++ t0) (c1 ++ c0).toInt).finish := by
  rw [exec_sample_of_working s i r _ hw, Ev.sampleTelegram_one _ i r t1 t0 c1 c0 ha hsec,
    Ev.takeSample_of_active _ i r _ _ hact]

end Sys2Proof.Machine

section
open Sys2Proof Sys2Proof.Machine

/-- Settles O26: the sample's record is written once, and `Ev.FeedStands` carries it to the end of the event. -/
theorem sampleMovesTheThermalValue : Obligations.SampleMovesTheThermalValue := by
  unfold Obligations.SampleMovesTheThermalValue
  intro i r t1 t0 c1 c0 s current credit hw ha hact hsec hcur hsome hnone
  let tick : Tick := t1 ++ t0
  let raw : Int := (c1 ++ c0).toInt
  let e := (Ev.start s).sourced i r tick
  have source := (Ev.start s).sourced_feedStands i r tick
  have feed : (e.s.sec i).feed = (s.sec i).feed := (Ev.start s).sourced_feed i r tick
  obtain ⟨fresh, weight⟩ := (s.sec i).feed.interval_of_new tick credit hsome hnone
  have others : s.sameSecsBut (e.recorded i tick raw).s i := fun j hj =>
    (e.recorded_others i tick raw j hj).trans (source.state.others j hj)
  have ends := (e.compute_feedStands i tick raw (feed ▸ fresh)).finish rfl others (by
    rw [e.recorded_sel, source.state.selector]
    exact Sec.not_blind_of_activeSource hact)
  refine ⟨_, exec_sample_of_active s i r t1 t0 c1 c0 hw ha hact hsec, ?_, ?_,
    fun j hj => (ends.others j hj).trans (others j hj), ends.background⟩
  · rw [ends.thermal, e.recorded_h, feed, weight, thermalAfter_eq, clampCurrent_eq, ← hcur]
    rfl
  · rw [ends.last, e.recorded_prev, clampCurrent_eq, ← hcur]

end

/-! SUPPORT. O46 (R69, R91, R96). The window expiry shuts the window of one record and judges gate 2 of the GATING section
whose current incident it is. With another gate failing that changes no field the end of the event looks at, so only the
INCIDENT_REPORT is queued. CLEAR_INCIDENTS changes the list and the request count. -/

namespace Sys2Proof.Machine

open Sys2Proof

/-! ### The record whose window closes -/

/-- R91: the record when its window closes. -/
def Incident.shut (r : Incident) : Incident := { r with state := .held, window := none }

/-- R91: the state with the window of a record closed. -/
def State.shutWindow (s : State) (n : Nat) : State := s.modRecord n Incident.shut

theorem State.shutWindow_eq (s : State) (n : Nat) : s.shutWindow n =
    { s with incidents := { s.incidents with records := s.incidents.records.map fun x =>
        if x.number = n then { x with state := .held, window := none } else x } } := by
  simp only [State.shutWindow, State.modRecord, Incident.shut, beq_iff_eq]

/-- A change of a record that keeps every number is read back under the number. -/
theorem State.record?_modRecord (s : State) (n : Nat) (f : Incident → Incident) (hf : ∀ r, (f r).number = r.number) :
    (s.modRecord n f).record? n = (s.record? n).map f := by
  simp only [State.record?, State.modRecord]
  induction s.incidents.records with
  | nil => rfl
  | cons r rest ih =>
    by_cases hr : r.number = n
    · simp [hr, hf]
    · simpa [hr] using ih

theorem State.record?_shutWindow {s : State} {n : Nat} {r : Incident} (h : s.record? n = some r) :
    (s.shutWindow n).record? n = some r.shut := by
  rw [State.shutWindow, s.record?_modRecord n Incident.shut fun _ => rfl, h]
  rfl

/-- R94: the report of a record of the list. -/
theorem Ev.reportIncident_of_record {e : Ev} {n : Nat} {r : Incident} (h : e.s.record? n = some r) (c : IncCause) :
    e.reportIncident n c = e.incidentReport (e.s.report kIncidentReport (r.reportBody c)) := by
  simp only [Ev.reportIncident, h]

/-! ### Gate 2 -/

/-- R69: gate 2 holds once the section's current incident is no longer OPEN. -/
theorem State.window_gate_of_not_opened {s : State} {i : SecNo} {n : Nat} {r : Incident}
    (hc : (s.sec i).ctl.incident = some n) (hr : s.record? n = some r) (ho : r.object = .sec i) (hs : r.state ≠ .opened) :
    s.gateHolds i .window = true := by
  have current : s.incidentOf i = some r := by simp [State.incidentOf, hc, hr, ho]
  simp [State.gateHolds, current, hs]

/-- R69: no gate is judged for a section that is not GATING. -/
theorem Ev.reevaluate_of_not_gating {e : Ev} {i : SecNo} (h : (e.s.sec i).rcl.phase ≠ .gating) (g : Gate) :
    e.reevaluate i g = e := by
  simp only [Ev.reevaluate, h, if_false]

/-- R69, R71: a gate of a GATING section is judged and recorded, and nothing follows while the hold does not fail and some
gate does. -/
theorem Ev.reevaluate_of_gate_failing {e : Ev} {i : SecNo} {g : Gate} {b : Bool}
    (hp : (e.s.sec i).rcl.phase = .gating) (hb : e.s.gateHolds i g = b)
    (hh : (e.s.sec i).rcl.holdOverdue = false ∨ ((e.s.sec i).rcl.gates.put g b).vehicles = true)
    (ha : ((e.s.sec i).rcl.gates.put g b).all = false) :
    e.reevaluate i g = e.mod fun s => s.modRcl i fun q => { q with gates := q.gates.put g b } := by
  have noLockout : ¬((e.s.sec i).rcl.holdOverdue = true ∧ ((e.s.sec i).rcl.gates.put g b).vehicles = false) := by
    rintro ⟨overdue, failing⟩
    rcases hh with h | h <;> simp_all
  simp only [Ev.reevaluate, hp, hb, if_true, State.holdFails, State.modRcl, Ev.mod, State.sec_modSec_self, ha,
    Bool.and_eq_true, Bool.not_eq_true', noLockout, if_false, Bool.false_eq_true]

/-! ### The closing of a window -/

/-- R69, R91: the window of a section's current incident closes: gate 2 is judged and the record reported. -/
theorem Ev.windowClosed_of_current {e : Ev} {n : Nat} {r : Incident} {i : SecNo} (hr : e.s.record? n = some r)
    (ho : r.object = .sec i) (hc : (e.s.sec i).ctl.incident = some n) :
    e.windowClosed n = ((e.mod fun s => s.shutWindow n).reevaluate i .window).reportIncident n .windowClosed := by
  simp only [Ev.windowClosed, hr, ho]
  exact congrArg (Ev.reportIncident · n .windowClosed) (if_pos hc)

/-- R91: the window of a record that is no section's current incident closes: the record is reported. -/
theorem Ev.windowClosed_of_not_current {e : Ev} {n : Nat} {r : Incident} (hr : e.s.record? n = some r)
    (hc : ∀ i : SecNo, r.object = .sec i → (e.s.sec i).ctl.incident ≠ some n) :
    e.windowClosed n = (e.mod fun s => s.shutWindow n).reportIncident n .windowClosed := by
  simp only [Ev.windowClosed, hr]
  cases ho : r.object with
  | sec i => exact congrArg (Ev.reportIncident · n .windowClosed) (if_neg (hc i ho))
  | station => rfl
  | point p => rfl

/-- R91: the window of the current incident of no GATING section closes: its record changes and is reported. -/
theorem Ev.windowClosed_of_not_gating {e : Ev} {n : Nat} {r : Incident} (hr : e.s.record? n = some r)
    (hng : ∀ i : SecNo, r.object = .sec i → (e.s.sec i).ctl.incident = some n → (e.s.sec i).rcl.phase ≠ .gating) :
    e.windowClosed n = (e.mod fun s => s.shutWindow n).incidentReport
      (e.s.report kIncidentReport (r.shut.reportBody .windowClosed)) := by
  have reported : (e.mod fun s => s.shutWindow n).reportIncident n .windowClosed = _ :=
    Ev.reportIncident_of_record (State.record?_shutWindow hr) .windowClosed
  by_cases hc : ∃ i : SecNo, r.object = .sec i ∧ (e.s.sec i).ctl.incident = some n
  · obtain ⟨i, ho, hc⟩ := hc
    rw [Ev.windowClosed_of_current hr ho hc,
      Ev.reevaluate_of_not_gating (e := e.mod fun s => s.shutWindow n) (hng i ho hc), reported]
    rfl
  · rw [Ev.windowClosed_of_not_current hr fun i ho hi => hc ⟨i, ho, hi⟩, reported]
    rfl

/-- R69, R91: the window of the current incident of a GATING section closes while another gate fails: its record changes
and is reported, and gate 2 holds. -/
theorem Ev.windowClosed_of_gating {e : Ev} {n : Nat} {r : Incident} {i : SecNo} (hr : e.s.record? n = some r)
    (ho : r.object = .sec i) (hc : (e.s.sec i).ctl.incident = some n) (hp : (e.s.sec i).rcl.phase = .gating)
    (hh : (e.s.sec i).rcl.holdOverdue = false ∨ (e.s.sec i).rcl.gates.vehicles = true)
    (ha : ((e.s.sec i).rcl.gates.put .window true).all = false) :
    e.windowClosed n = (e.mod fun s => (s.shutWindow n).modRcl i fun q =>
      { q with gates := { q.gates with window := true } }).incidentReport
        (e.s.report kIncidentReport (r.shut.reportBody .windowClosed)) := by
  have shut := State.record?_shutWindow hr
  have holds : (e.s.shutWindow n).gateHolds i .window = true :=
    State.window_gate_of_not_opened hc shut ho (by decide : IncState.held ≠ .opened)
  rw [Ev.windowClosed_of_current hr ho hc,
    Ev.reevaluate_of_gate_failing (e := e.mod fun s => s.shutWindow n) hp holds hh ha]
  exact Ev.reportIncident_of_record shut .windowClosed

/-! ### The end of an event that changes no reported field -/

/-- From `s` to `t` nothing changes that the end of an event looks at: the mode, the tables, the station, the points, the
section controllers' records and the shot counts. -/
structure State.EndStands (s t : State) : Prop where
  modeRec : t.modeRec = s.modeRec
  tables : t.tables = s.tables
  station : t.station = s.station
  points : t.points = s.points
  ctl : ∀ i : SecNo, (t.sec i).ctl = (s.sec i).ctl
  shots : ∀ i : SecNo, (t.sec i).rcl.shots = (s.sec i).rcl.shots

theorem State.EndStands.suppliesTold {s t : State} (h : s.EndStands t) (ht : s.SuppliesTold) : t.SuppliesTold := by
  intro p
  rw [State.pointEntry, h.tables, State.point, h.points, h.ctl]
  exact ht p

/-- R94: an event of one INCIDENT_REPORT that changes nothing its end looks at queues that report. -/
theorem State.EndStands.finish_incidentReport {s : State} {f : State → State} (h : s.EndStands (f s))
    (ht : s.SuppliesTold) (m : Telegram) :
    (((Ev.start s).mod f).incidentReport m).finish = (f s).pushNormal .control m := by
  have quiet := Ev.finish_of_quiet (((Ev.start s).mod f).incidentReport m) (congrArg ModeRecord.mode h.modeRec)
    (fun i => .inl (congrArg SectionCtl.state (h.ctl i))) (h.suppliesTold ht) rfl
  have sections := Ev.sectionReports_nil (((Ev.start s).mod f).incidentReport m)
    (fun i => by simp [Sec.reported, h.ctl i, h.shots i]) rfl
  have station := Ev.stationReports_nil (((Ev.start s).mod f).incidentReport m) (congrArg Station.reported h.station)
  have points := Ev.pointReports_nil (((Ev.start s).mod f).incidentReport m)
    (fun p => congrArg Point.reported (State.point_eq _ _ h.points p))
  rw [quiet, Ev.reports, sections, station, points]
  rfl

/-- R91: the closing of a window changes the incident list alone. -/
theorem State.endStands_shutWindow (s : State) (n : Nat) : s.EndStands (s.shutWindow n) :=
  ⟨rfl, rfl, rfl, rfl, fun _ => rfl, fun _ => rfl⟩

/-- R69: a change of the gates alone. -/
theorem State.EndStands.modGates {s t : State} (h : s.EndStands t) (i : SecNo) (f : Gates → Gates) :
    s.EndStands (t.modRcl i fun q => { q with gates := f q.gates }) where
  modeRec := h.modeRec
  tables := h.tables
  station := h.station
  points := h.points
  ctl j := by
    rw [← h.ctl j, State.modRcl, State.sec_modSec]
    split <;> rfl
  shots j := by
    rw [← h.shots j, State.modRcl, State.sec_modSec]
    split <;> rfl

/-! ### The two commands -/

/-- R91: the window expiry of an OPEN incident is one event. -/
theorem exec_windowExpiry_of_due {s : State} {n : Nat} {r : Incident} (hheld : s.held = false)
    (hr : s.record? n = some r) (hs : r.state = .opened) (hd : dueNow s.partTime r.window = true) :
    exec (.windowExpiry n) s = .next ((Ev.start s).windowClosed n).finish := by
  have arm : exec (.windowExpiry n) s = execWindowExpiry n s := rfl
  simp only [arm, execWindowExpiry, State.event, State.running, hheld, Bool.false_eq_true, if_false, Ev.windowExpiry,
    Ev.start_s, hr, Option.any_some, hs, hd, beq_self_eq_true, Bool.and_true, if_true]

/-- R96: CLEAR_INCIDENTS of a station that may manage is one event, answered DONE with the number removed. -/
theorem exec_clearIncidents_of_mayManage {s : State} {r : Req} (hheld : s.held = false) (hl : s.loading = false)
    (hm : s.mayManage r = true) :
    exec (.clearIncidents r) s = .next (((Ev.start s).mod fun s => s.countRequest.clearIncidents).answer r.line
      (answerTelegram s.settings.own r kMgReply 0x09 .done (be8 s.closedCount))).finish := by
  have arm : exec (.clearIncidents r) s = execClearIncidents r s := rfl
  simp only [arm, execClearIncidents, State.event, State.running, hheld, Bool.false_eq_true, if_false,
    Ev.reqClearIncidents, Ev.request, Ev.start_s, hl, hm, if_true]
  rfl

end Sys2Proof.Machine

section
open Sys2Proof Sys2Proof.Machine

/-- Settles O46: the window clauses split on whether gate 2 is judged; in neither does the end of the event find more to
queue than the INCIDENT_REPORT. -/
theorem incidentWindowsAndClearing : Obligations.IncidentWindowsAndClearing := by
  unfold Obligations.IncidentWindowsAndClearing
  intro s hheld told
  refine ⟨fun n r hr hs hd => ⟨fun hng => ?notGating, fun i ho hc hp hh ha => ?gating⟩, fun r hl hm => ?clearing⟩
  case notGating =>
    rw [exec_windowExpiry_of_due hheld hr hs hd, Ev.windowClosed_of_not_gating (e := Ev.start s) hr hng,
      (s.endStands_shutWindow n).finish_incidentReport told, s.shutWindow_eq n]
    rfl
  case gating =>
    have failing : ((s.sec i).rcl.gates.put .window true).all = false := by
      simp only [Gates.put, Gates.all, Bool.and_eq_false_iff]
      tauto
    rw [exec_windowExpiry_of_due hheld hr hs hd, Ev.windowClosed_of_gating (e := Ev.start s) hr ho hc hp hh failing,
      ((s.endStands_shutWindow n).modGates i fun g => { g with window := true }).finish_incidentReport told,
      s.shutWindow_eq n]
    rfl
  case clearing =>
    rw [exec_clearIncidents_of_mayManage hheld hl hm, Ev.finish_of_still _ rfl rfl rfl rfl told rfl rfl rfl rfl]
    rfl

end

/-! SUPPORT. O24 (R177). A time mark writes the mode record and never its mode, so the end of its event finds nothing to
decide, to serve or to report: the next state is the state the mode and time unit leaves. -/

namespace Sys2Proof.Machine

open Sys2Proof

/-! ### A time mark and the mode record -/

/-- R177: a body of another length is not a day time. -/
theorem dayTimeOf_of_length_ne : ∀ {body : List Byte}, body.length ≠ 4 → dayTimeOf body = none
  | [], _ | [_], _ | [_, _], _ | [_, _, _], _ | _ :: _ :: _ :: _ :: _ :: _, _ => rfl
  | [_, _, _, _], h => absurd rfl h

/-- R177: a day time in range sets the reference. -/
theorem State.timeMark_of_lt (s : State) {d : Nat} (hd : d < dayLength) :
    s.timeMark .control s.settings.control (some d) =
      s.modMode fun r => { r with dayRef := some (d, s.partTime), marksTaken := inc16 r.marksTaken } := by
  simp only [State.timeMark, and_self, if_true, if_pos hd]

/-- R177: a mark whose body is no day time, or a day time out of range, is counted refused. -/
theorem State.timeMark_of_refused (s : State) {day : Option Nat} (hd : ∀ d, day = some d → dayLength ≤ d) :
    s.timeMark .control s.settings.control day =
      s.modMode fun r => { r with marksRefused := inc16 r.marksRefused } := by
  simp only [State.timeMark, and_self, if_true]
  cases day with
  | none => rfl
  | some d => exact if_neg (Nat.not_lt.mpr (hd d rfl))

/-- R177: a mark of another line or source has no effect. -/
theorem State.timeMark_of_other (s : State) {l : Line} {src : Byte} (h : ¬(l = .control ∧ src = s.settings.control))
    (day : Option Nat) : s.timeMark l src day = s := if_neg h

/-- R177: a mark, taken, refused or without effect, writes the mode record alone, and not its mode. -/
theorem State.timeMark_eq_modMode (s : State) (l : Line) (src : Byte) (day : Option Nat) :
    ∃ f : ModeRecord → ModeRecord, s.timeMark l src day = s.modMode f ∧ ∀ r, (f r).mode = r.mode := by
  by_cases h : l = .control ∧ src = s.settings.control
  · obtain ⟨rfl, rfl⟩ := h
    by_cases hd : ∀ d, day = some d → dayLength ≤ d
    · exact ⟨_, s.timeMark_of_refused hd, fun _ => rfl⟩
    · push Not at hd
      obtain ⟨d, rfl, hlt⟩ := hd
      exact ⟨_, s.timeMark_of_lt hlt, fun _ => rfl⟩
  · exact ⟨id, s.timeMark_of_other h day, fun _ => rfl⟩

/-! ### The event of a time mark -/

/-- An event that writes the mode record and keeps its mode ends as it stands. -/
theorem Ev.finish_start_modMode {s : State} (told : s.SuppliesTold) {f : ModeRecord → ModeRecord}
    (hf : ∀ r, (f r).mode = r.mode) : ((Ev.start s).mod fun s => s.modMode f).finish = s.modMode f :=
  Ev.finish_of_still _ (hf s.modeRec) rfl rfl rfl told rfl rfl rfl rfl

/-- R177: TIME_MARK leaves what the mode and time unit makes of it. -/
theorem exec_timeMark_of_working {s : State} (hw : s.Working) (told : s.SuppliesTold) (l : Line) (src : Byte)
    (body : List Byte) : exec (.timeMark l src body) s = .next (s.timeMark l src (dayTimeOf body)) := by
  obtain ⟨held, loading⟩ := hw
  obtain ⟨f, marked, keepsMode⟩ := s.timeMark_eq_modMode l src (dayTimeOf body)
  have written : (Ev.start s).mod (fun s => s.timeMark l src (dayTimeOf body)) =
      (Ev.start s).mod fun s => s.modMode f :=
    congrArg (fun t => { Ev.start s with s := t }) marked
  have arm : exec (.timeMark l src body) s = execTimeMark l src body s := rfl
  simp only [arm, execTimeMark, State.delivery, State.running, held, loading, Bool.false_eq_true, if_false]
  rw [written, Ev.finish_start_modMode told keepsMode, marked]

end Sys2Proof.Machine

section
open Sys2Proof Sys2Proof.Machine

/-- Settles O24: TIME_MARK leaves `State.timeMark`, which has an equation for a mark taken, one refused and one without
effect. -/
theorem timeMarkSetsTheDayTime : Obligations.TimeMarkSetsTheDayTime := by
  unfold Obligations.TimeMarkSetsTheDayTime
  intro l src a b c d s hw told
  refine ⟨?fromControl, fun body other => ?other⟩
  case fromControl =>
    rintro rfl rfl
    refine ⟨fun inDay => ?taken, fun pastDay => ?outOfRange, fun body noDay => ?noDayTime⟩
    case taken =>
      rw [exec_timeMark_of_working hw told, dayTimeOf, s.timeMark_of_lt inDay]
      rfl
    case outOfRange =>
      have refused : ∀ n, dayTimeOf [a, b, c, d] = some n → dayLength ≤ n := by
        rintro _ ⟨⟩
        exact pastDay
      rw [exec_timeMark_of_working hw told, s.timeMark_of_refused refused]
      rfl
    case noDayTime =>
      rw [exec_timeMark_of_working hw told, dayTimeOf_of_length_ne noDay,
        s.timeMark_of_refused (day := none) nofun]
      rfl
  case other => rw [exec_timeMark_of_working hw told, s.timeMark_of_other other]

end

/-! SUPPORT. What each operation may write, said once. `State.Edit` lists the single writes of the model with the guards under
which they are made; `State.Edits` is a run of writes to named parts of the state. Every operation of an event has a
rule that names the parts it writes. Frames and the invariants of O5, O6 and O8 are read off the writes. -/

namespace Sys2Proof.Machine

open Sys2Proof

/-! ### Writes -/

/-- The parts of the state that writes are told apart by. `supply` is a point's record with its supply flag, `observe` a
change of mode into OBSERVE, `heads` an event's marks of the points to be served, and `whole` a write of many parts. -/
inductive Part where
  | sec (i : SecNo) | station | incidents | vehicles | point (p : PointNo) | supply (p : PointNo) | supervisor | mode
  | observe | commands | normal (l : Line) | urgent | port (l : Line) | bind | tables | store | memory | heads | whole

/-- One write. A trip line is asserted by R7's own operations alone, a point stays within its limits, a port keeps its
limits and gains no order but by R5's, and no write but that of a cold restart begins a load. -/
inductive State.Edit : Part → State → State → Prop
  | sec (s : State) (i : SecNo) (f : Sec → Sec) (line : (f (s.sec i)).ctl.tripLine = true → (s.sec i).ctl.tripLine = true) :
      Edit (.sec i) s (s.modSec i f)
  | assertLine (s : State) (i : SecNo) : Edit (.sec i) s (s.assertLine i)
  | station (s : State) (f : Station → Station) (line : (f s.station).tripLine = true → s.station.tripLine = true) :
      Edit .station s (s.modStation f)
  | assertStationLine (s : State) : Edit .station s s.assertStationLine
  | incidents (s : State) (l : IncidentList) : Edit .incidents s { s with incidents := l }
  | vehicles (s : State) (f : VehicleTable → VehicleTable) : Edit .vehicles s (s.modVehicles f)
  | point (s : State) (p : PointNo) (f : Point → Point) (within : (s.point p).Bounded → (f (s.point p)).Bounded)
      (told : (f (s.point p)).supplyLive = (s.point p).supplyLive) : Edit (.point p) s (s.modPoint p f)
  | supply (s : State) (p : PointNo) (f : Point → Point) (within : (s.point p).Bounded → (f (s.point p)).Bounded) :
      Edit (.supply p) s (s.modPoint p f)
  | supervisor (s : State) (f : SupervisorCounters → SupervisorCounters) : Edit .supervisor s (s.modSupervisor f)
  | mode (s : State) (f : ModeRecord → ModeRecord) (leaves : (f s.modeRec).mode = .observe → s.mode = .observe) :
      Edit .mode s (s.modMode f)
  | observe (s : State) (f : ModeRecord → ModeRecord) : Edit .observe s (s.modMode f)
  | commands (s : State) (f : CommandCounters → CommandCounters) : Edit .commands s (s.modCommands f)
  | pushNormal (s : State) (l : Line) (m : Telegram) : Edit (.normal l) s (s.pushNormal l m)
  | queueOrder (s : State) (obj : BreakerObj) (k : OrderKind) : Edit .urgent s (s.queueOrder obj k)
  | withdraw (s : State) (obj : BreakerObj) : Edit .urgent s (s.withdraw obj)
  | port (s : State) (l : Line) (f : Port → Port) (within : (s.port l).Bounded → (f (s.port l)).Bounded)
      (orders : ∀ o ∈ (f (s.port l)).urgent, o ∈ (s.port l).urgent) : Edit (.port l) s (s.modPort l f)
  | bind (s : State) (v : Vector BindCount 64) : Edit .bind s { s with bindCounts := v }
  | tables (s : State) (t : Tables) : Edit .tables s { s with tables := t }
  | store (s : State) (f : StoreRecord → StoreRecord)
      (load : ∀ got, (f s.store).op = some (.load got) → s.loading = true) : Edit .store s (s.modStore f)
  | memory (s : State) (m : Cells) (n : Nat) (canonical : Memory.wf s.storeMem = true → Memory.wf m = true) :
      Edit .memory s { s with storeMem := m, freeCount := n }
  | coldStart (s : State) (cause : RestartCause) (tag : Option Byte) : Edit .whole s (s.coldStart cause tag)
  | warmRecords (s : State) (tag : Byte) : Edit .whole s (s.warmRecords tag)
  | clearCounters (s : State) : Edit .whole s s.clearCounters
  | releaseAllLines (s : State) : Edit .whole s s.releaseAllLines
  | pins (s : State) (supply line : Bool) : Edit .whole s { s with supplyUp := supply, resetLine := line }
  | tick (s : State) : Edit .whole s s.tick

/-- A run of writes to parts of `T`. -/
def State.Edits (T : Part → Prop) : State → State → Prop := Relation.ReflTransGen fun s t => ∃ k, T k ∧ s.Edit k t

namespace State.Edits

section
variable {T U : Part → Prop} {s t u : State}

theorem refl : s.Edits T s := Relation.ReflTransGen.refl

theorem trans (h : s.Edits T t) (k : t.Edits T u) : s.Edits T u := Relation.ReflTransGen.trans h k

theorem edit {k : Part} (h : s.Edits T t) (hk : T k) (e : t.Edit k u) : s.Edits T u := Relation.ReflTransGen.tail h ⟨k, hk, e⟩

/-- What every write keeps, a run of writes keeps. -/
theorem keeps {P : State → Prop} (h : s.Edits T t) (step : ∀ k u v, T k → State.Edit k u v → P u → P v) (hs : P s) : P t := by
  induction h with
  | refl => exact hs
  | tail _ e ih =>
    obtain ⟨k, hk, e⟩ := e
    exact step k _ _ hk e ih

theorem mono (h : s.Edits T t) (hT : T ≤ U) : s.Edits U t :=
  h.keeps (P := s.Edits U) (fun k _ _ hk e hu => hu.edit (hT k hk) e) refl

end

end State.Edits

/-! ### What a run of writes leaves -/

section
variable (s : State)

theorem State.assertLine_cases (i : SecNo) : (s.mode = .observe ∧ s.assertLine i = s) ∨
    (s.mode ≠ .observe ∧ s.assertLine i = s.modCtl i fun c => { c with tripLine := true }) := by
  unfold State.assertLine
  split
  · exact .inl ⟨‹_›, rfl⟩
  · exact .inr ⟨‹_›, rfl⟩

theorem State.assertStationLine_cases : (s.mode = .observe ∧ s.assertStationLine = s) ∨
    (s.mode ≠ .observe ∧ s.assertStationLine = s.modStation fun t => { t with tripLine := true }) := by
  unfold State.assertStationLine
  split
  · exact .inl ⟨‹_›, rfl⟩
  · exact .inr ⟨‹_›, rfl⟩

/-- R5: an order is queued into the Field line urgent queue, but in OBSERVE. -/
theorem State.queueOrder_cases (obj : BreakerObj) (k : OrderKind) : (s.mode = .observe ∧ s.queueOrder obj k = s) ∨
    (s.mode ≠ .observe ∧ s.queueOrder obj k = { s with fieldPort := { s.fieldPort with
      urgent := pushUrgent s.fieldPort.urgent ⟨obj, k, s.telegram (s.breakerStation obj) k.code []⟩ } }) := by
  unfold State.queueOrder
  split
  · exact .inl ⟨‹_›, rfl⟩
  · exact .inr ⟨‹_›, rfl⟩

/-- R166: queuing writes the queue and the count of its discards. -/
theorem Port.pushNormal_eq (p : Port) (m : Telegram) : ∃ q n, p.pushNormal m =
    { p with normal := q, counters := { p.counters with txDiscards := n } } := by
  rcases p.pushNormal_cases m with ⟨_, h⟩ | ⟨_, h⟩
  · exact ⟨_, p.counters.txDiscards, h⟩
  · exact ⟨_, _, h⟩

end

/-- The form of a write to a part: the one field it sets. -/
def Part.Shape (s t : State) : Part → Prop
  | .sec i => ∃ x, t = { s with secs := s.secs.set i x }
  | .station => ∃ x, t = { s with station := x }
  | .incidents => ∃ x, t = { s with incidents := x }
  | .vehicles => ∃ x, t = { s with vehicles := x }
  | .point p => ∃ x, t = { s with points := s.points.set p x } ∧ x.supplyLive = (s.point p).supplyLive
  | .supply p => ∃ x, t = { s with points := s.points.set p x }
  | .supervisor => ∃ x, t = { s with supervisor := x }
  | .mode | .observe => ∃ x, t = { s with modeRec := x }
  | .commands => ∃ x, t = { s with commands := x }
  | .normal .field => ∃ q n, t = { s with fieldPort := { s.fieldPort with
      normal := q, counters := { s.fieldPort.counters with txDiscards := n } } }
  | .normal .control => ∃ q n, t = { s with controlPort := { s.controlPort with
      normal := q, counters := { s.controlPort.counters with txDiscards := n } } }
  | .urgent => ∃ q, t = { s with fieldPort := { s.fieldPort with urgent := q } }
  | .port .field => ∃ x, t = { s with fieldPort := x }
  | .port .control => ∃ x, t = { s with controlPort := x }
  | .bind => ∃ x, t = { s with bindCounts := x }
  | .tables => ∃ x, t = { s with tables := x }
  | .store => ∃ x, t = { s with store := x }
  | .memory => ∃ m n, t = { s with storeMem := m, freeCount := n }
  | .heads => t = s
  | .whole => True

theorem State.Edit.shape {s t : State} {k : Part} (e : s.Edit k t) : k.Shape s t := by
  cases e with
  | sec _ i f => exact ⟨_, rfl⟩
  | assertLine _ i =>
    rcases s.assertLine_cases i with ⟨_, e⟩ | ⟨_, e⟩ <;> rw [e]
    · exact ⟨s.secs[i], by simp⟩
    · exact ⟨_, rfl⟩
  | assertStationLine =>
    rcases s.assertStationLine_cases with ⟨_, e⟩ | ⟨_, e⟩ <;> rw [e]
    · exact ⟨_, rfl⟩
    · exact ⟨_, rfl⟩
  | queueOrder _ obj k =>
    rcases s.queueOrder_cases obj k with ⟨_, e⟩ | ⟨_, e⟩ <;> rw [e]
    · exact ⟨_, rfl⟩
    · exact ⟨_, rfl⟩
  | pushNormal _ l m =>
    obtain ⟨q, n, h⟩ := (s.port l).pushNormal_eq m
    cases l
    · exact ⟨q, n, congrArg (fun p => { s with fieldPort := p }) h⟩
    · exact ⟨q, n, congrArg (fun p => { s with controlPort := p }) h⟩
  | port _ l f => cases l <;> exact ⟨_, rfl⟩
  | point _ p f _ told => exact ⟨_, rfl, told⟩
  | memory _ m n => exact ⟨m, n, rfl⟩
  | coldStart | warmRecords | clearCounters | releaseAllLines | pins | tick => trivial
  | station | incidents | vehicles | supply | supervisor | mode | observe | commands | withdraw | bind | tables |
    store => exact ⟨_, rfl⟩

namespace State.Edits

section
variable {T : Part → Prop} {s t : State}

/-- A field stands where no write to a part of `T` sets it. -/
theorem field {α : Type} (g : State → α) (h : s.Edits T t) (step : ∀ k u v, T k → k.Shape u v → g v = g u) : g t = g s :=
  h.keeps (P := fun v => g v = g s) (fun k u v hk e hu => (step k u v hk e.shape).trans hu) rfl

theorem partTime (h : s.Edits T t) (h1 : ¬T .whole) : t.partTime = s.partTime :=
  h.field State.partTime fun k u v hk e => by unfold Part.Shape at e; split at e <;> grind

theorem supplyUp (h : s.Edits T t) (h1 : ¬T .whole) : t.supplyUp = s.supplyUp :=
  h.field State.supplyUp fun k u v hk e => by unfold Part.Shape at e; split at e <;> grind

theorem resetLine (h : s.Edits T t) (h1 : ¬T .whole) : t.resetLine = s.resetLine :=
  h.field State.resetLine fun k u v hk e => by unfold Part.Shape at e; split at e <;> grind

theorem pending (h : s.Edits T t) (h1 : ¬T .whole) : t.pending = s.pending :=
  h.field State.pending fun k u v hk e => by unfold Part.Shape at e; split at e <;> grind

theorem tables (h : s.Edits T t) (h1 : ¬T .tables) (h2 : ¬T .whole) : t.tables = s.tables :=
  h.field State.tables fun k u v hk e => by unfold Part.Shape at e; split at e <;> grind

theorem station (h : s.Edits T t) (h1 : ¬T .station) (h2 : ¬T .whole) : t.station = s.station :=
  h.field State.station fun k u v hk e => by unfold Part.Shape at e; split at e <;> grind

theorem incidents (h : s.Edits T t) (h1 : ¬T .incidents) (h2 : ¬T .whole) : t.incidents = s.incidents :=
  h.field State.incidents fun k u v hk e => by unfold Part.Shape at e; split at e <;> grind

theorem vehicles (h : s.Edits T t) (h1 : ¬T .vehicles) (h2 : ¬T .whole) : t.vehicles = s.vehicles :=
  h.field State.vehicles fun k u v hk e => by unfold Part.Shape at e; split at e <;> grind

theorem supervisor (h : s.Edits T t) (h1 : ¬T .supervisor) (h2 : ¬T .whole) : t.supervisor = s.supervisor :=
  h.field State.supervisor fun k u v hk e => by unfold Part.Shape at e; split at e <;> grind

theorem bindCounts (h : s.Edits T t) (h1 : ¬T .bind) (h2 : ¬T .whole) : t.bindCounts = s.bindCounts :=
  h.field State.bindCounts fun k u v hk e => by unfold Part.Shape at e; split at e <;> grind

theorem modeRec (h : s.Edits T t) (h1 : ¬T .mode) (h2 : ¬T .observe) (h3 : ¬T .whole) : t.modeRec = s.modeRec :=
  h.field State.modeRec fun k u v hk e => by unfold Part.Shape at e; split at e <;> grind

theorem commands (h : s.Edits T t) (h1 : ¬T .commands) (h2 : ¬T .whole) : t.commands = s.commands :=
  h.field State.commands fun k u v hk e => by unfold Part.Shape at e; split at e <;> grind

theorem store (h : s.Edits T t) (h1 : ¬T .store) (h2 : ¬T .whole) : t.store = s.store :=
  h.field State.store fun k u v hk e => by unfold Part.Shape at e; split at e <;> grind

theorem storeMem (h : s.Edits T t) (h1 : ¬T .memory) (h2 : ¬T .whole) : t.storeMem = s.storeMem :=
  h.field State.storeMem fun k u v hk e => by unfold Part.Shape at e; split at e <;> grind

theorem freeCount (h : s.Edits T t) (h1 : ¬T .memory) (h2 : ¬T .whole) : t.freeCount = s.freeCount :=
  h.field State.freeCount fun k u v hk e => by unfold Part.Shape at e; split at e <;> grind

/-- The records of a section no write goes to. -/
theorem sec {i : SecNo} (h : s.Edits T t) (h1 : ¬T (.sec i)) (h2 : ¬T .whole) : t.sec i = s.sec i :=
  h.field (State.sec · i) fun k u v hk e => by
    unfold Part.Shape at e; split at e <;> grind [State.sec]

theorem point {p : PointNo} (h : s.Edits T t) (h1 : ¬T (.point p)) (h2 : ¬T (.supply p)) (h3 : ¬T .whole) :
    t.point p = s.point p :=
  h.field (State.point · p) fun k u v hk e => by
    unfold Part.Shape at e; split at e <;> grind [State.point]

/-- R131: the supply flag of a point. -/
theorem supplyLive {p : PointNo} (h : s.Edits T t) (h1 : ¬T (.supply p)) (h2 : ¬T .whole) :
    (t.point p).supplyLive = (s.point p).supplyLive :=
  h.field (fun v => (v.point p).supplyLive) fun k u v hk e => by
    unfold Part.Shape at e; split at e <;> grind [State.point]

theorem fieldPort (h : s.Edits T t) (h1 : ¬T (.normal .field)) (h2 : ¬T .urgent) (h3 : ¬T (.port .field))
    (h4 : ¬T .whole) : t.fieldPort = s.fieldPort :=
  h.field State.fieldPort fun k u v hk e => by unfold Part.Shape at e; split at e <;> grind

/-- R165: the urgent queue of the Field line. -/
theorem urgent (h : s.Edits T t) (h1 : ¬T .urgent) (h2 : ¬T (.port .field)) (h3 : ¬T .whole) :
    t.fieldPort.urgent = s.fieldPort.urgent :=
  h.field (fun v => v.fieldPort.urgent) fun k u v hk e => by unfold Part.Shape at e; split at e <;> grind

theorem background (h : s.Edits T t) (h1 : ¬T .tables) (h2 : ¬T .bind) (h3 : ¬T .store) (h4 : ¬T .memory)
    (h5 : ¬T .whole) : t.background = s.background := by
  simp only [State.background, h.partTime h5, h.supplyUp h5, h.resetLine h5, h.pending h5, h.tables h1 h5,
    h.bindCounts h2 h5, h.store h3 h5, h.storeMem h4 h5, h.freeCount h4 h5]

end
end State.Edits

end Sys2Proof.Machine

namespace Sys2Proof.Machine

open Sys2Proof

/-! ### The limits -/

@[simp] theorem Port.pushNormal_urgent (p : Port) (m : Telegram) : (p.pushNormal m).urgent = p.urgent := by
  obtain ⟨q, n, e⟩ := p.pushNormal_eq m
  rw [e]

@[simp] theorem Port.pushNormal_buffer (p : Port) (m : Telegram) : (p.pushNormal m).buffer = p.buffer := by
  obtain ⟨q, n, e⟩ := p.pushNormal_eq m
  rw [e]

/-- R166: queuing a telegram keeps a port within its limits. -/
theorem Port.Bounded.pushNormal {p : Port} (h : p.Bounded) (m : Telegram) : (p.pushNormal m).Bounded := by
  refine ⟨?_, p.pushNormal_length m h.normal, ?_⟩
  · rw [p.pushNormal_buffer]; exact h.buffer
  · rw [p.pushNormal_urgent]; exact h.urgent

/-- R165: an order replaces the one for its breaker object, or is added where there is none. -/
theorem pushUrgent_nodup {q : List UrgentOrder} (h : (q.map UrgentOrder.obj).Nodup) (o : UrgentOrder) :
    ((pushUrgent q o).map UrgentOrder.obj).Nodup := by
  rcases pushUrgent_cases q o with ⟨_, e⟩ | ⟨new, e⟩
  · have same : (q.map fun x => if x.obj = o.obj then o else x).map UrgentOrder.obj = q.map UrgentOrder.obj := by
      rw [List.map_map]
      refine List.map_congr_left fun x _ => ?_
      by_cases hx : x.obj = o.obj <;> simp [hx]
    rw [e, same]
    exact h
  · rw [e, List.map_append, List.map_singleton]
    exact h.append (List.nodup_singleton _) (by simpa using new)

theorem Port.Bounded.pushUrgent {p : Port} (h : p.Bounded) (o : UrgentOrder) :
    ({ p with urgent := Machine.pushUrgent p.urgent o } : Port).Bounded :=
  ⟨h.buffer, h.normal, pushUrgent_nodup h.urgent o⟩

theorem Port.Bounded.withdraw {p : Port} (h : p.Bounded) (obj : BreakerObj) :
    ({ p with urgent := withdrawClose p.urgent obj } : Port).Bounded :=
  ⟨h.buffer, h.normal, h.urgent.sublist ((List.filter_sublist).map _)⟩

theorem Port.Bounded.empty (p : Port) (hb : p.buffer = []) (hn : p.normal = []) (hu : p.urgent = []) : p.Bounded :=
  ⟨by simp [hb], by simp [hn], by simp [hu]⟩

theorem State.Bounded.modPort {s : State} (h : s.Bounded) {l : Line} {f : Port → Port}
    (hf : (s.port l).Bounded → (f (s.port l)).Bounded) : (s.modPort l f).Bounded := by
  cases l
  · exact ⟨hf h.field, h.control, h.points⟩
  · exact ⟨h.field, hf h.control, h.points⟩

theorem State.Bounded.modPoint {s : State} (h : s.Bounded) {p : PointNo} {f : Point → Point}
    (hf : (s.point p).Bounded → (f (s.point p)).Bounded) : (s.modPoint p f).Bounded := by
  refine ⟨h.field, h.control, fun q => ?_⟩
  by_cases hq : p = q
  · subst hq
    simpa using hf (h.points p)
  · rw [s.point_modPoint_of_ne hq]
    exact h.points q

/-- The records of a cold restart are within the limits. -/
theorem State.bounded_coldStart (s : State) (cause : RestartCause) (tag : Option Byte) : (s.coldStart cause tag).Bounded :=
  ⟨.empty _ rfl rfl rfl, .empty _ rfl rfl rfl, fun p => by
    have cold : (s.coldStart cause tag).point p = coldPoint := by
      simp [State.coldStart, State.reset, State.point]
    rw [cold]
    exact ⟨by decide, by decide⟩⟩

/-- R122, R124, R164, R165, R166: every write keeps the limits. -/
theorem State.Edit.bounded {s t : State} {k : Part} (e : s.Edit k t) (h : s.Bounded) : t.Bounded := by
  cases e with
  | assertLine _ i =>
    rcases s.assertLine_cases i with ⟨_, e⟩ | ⟨_, e⟩ <;> rw [e]
    · exact h
    · exact ⟨h.field, h.control, h.points⟩
  | assertStationLine =>
    rcases s.assertStationLine_cases with ⟨_, e⟩ | ⟨_, e⟩ <;> rw [e]
    · exact h
    · exact ⟨h.field, h.control, h.points⟩
  | queueOrder _ obj k =>
    rcases s.queueOrder_cases obj k with ⟨_, e⟩ | ⟨_, e⟩ <;> rw [e]
    · exact h
    · exact ⟨h.field.pushUrgent _, h.control, h.points⟩
  | withdraw _ obj => exact ⟨h.field.withdraw obj, h.control, h.points⟩
  | pushNormal _ l m => exact h.modPort fun hl => hl.pushNormal m
  | port _ l f within => exact h.modPort within
  | point _ p f within => exact h.modPoint within
  | supply _ p f within => exact h.modPoint within
  | coldStart => exact s.bounded_coldStart _ _
  | warmRecords => exact ⟨.empty _ rfl rfl rfl, .empty _ rfl rfl rfl, h.points⟩
  | clearCounters =>
    refine ⟨⟨h.field.buffer, h.field.normal, h.field.urgent⟩, ⟨h.control.buffer, h.control.normal, h.control.urgent⟩,
      fun p => ?_⟩
    have cleared : s.clearCounters.point p = { s.point p with counters := coldPointCounters } := by
      simp [State.clearCounters, State.point]
    rw [cleared]
    exact ⟨(h.points p).occupancy, (h.points p).queue⟩
  | sec | station | incidents | vehicles | supervisor | mode | observe | commands | bind | tables | store | memory |
    releaseAllLines | pins | tick => exact ⟨h.field, h.control, h.points⟩

/-! ### The store -/

/-- R179, R191: a transaction that ends early keeps the canonical form. -/
theorem State.wf_cutTransaction {s : State} (h : Memory.wf s.storeMem = true) :
    Memory.wf s.cutTransaction.storeMem = true := by
  unfold State.cutTransaction
  split
  · exact Memory.wf_writeSome _ _ _ _ h
  · exact h

/-- R190: every write keeps the store canonical. -/
theorem State.Edit.canonical {s t : State} {k : Part} (e : s.Edit k t) (h : Memory.wf s.storeMem = true) :
    Memory.wf t.storeMem = true := by
  cases e with
  | assertLine _ i => rcases s.assertLine_cases i with ⟨_, e⟩ | ⟨_, e⟩ <;> rw [e] <;> exact h
  | assertStationLine => rcases s.assertStationLine_cases with ⟨_, e⟩ | ⟨_, e⟩ <;> rw [e] <;> exact h
  | queueOrder _ obj k => rcases s.queueOrder_cases obj k with ⟨_, e⟩ | ⟨_, e⟩ <;> rw [e] <;> exact h
  | pushNormal => rw [State.pushNormal_storeMem]; exact h
  | port => rw [State.modPort_storeMem]; exact h
  | memory _ _ _ canonical => exact canonical h
  | coldStart => exact State.wf_cutTransaction h
  | sec | station | incidents | vehicles | point | supply | supervisor | mode | observe | commands | withdraw | bind |
    tables | store | warmRecords | clearCounters | releaseAllLines | pins | tick => exact h

/-! ### OBSERVE -/

/-- R5, R7: against `s` there is no new order in the urgent queue and no line asserted anew. -/
structure State.QuietFrom (s t : State) : Prop where
  orders : ∀ o ∈ t.fieldPort.urgent, o ∈ s.fieldPort.urgent
  lines : ∀ i : SecNo, (t.sec i).ctl.tripLine = true → (s.sec i).ctl.tripLine = true
  stationLine : t.station.tripLine = true → s.station.tripLine = true

theorem State.QuietFrom.refl {s : State} : s.QuietFrom s := ⟨fun _ h => h, fun _ h => h, fun h => h⟩

theorem State.QuietFrom.trans {s t u : State} (h : s.QuietFrom t) (k : t.QuietFrom u) : s.QuietFrom u :=
  ⟨fun o ho => h.orders o (k.orders o ho), fun i hi => h.lines i (k.lines i hi), fun hl => h.stationLine (k.stationLine hl)⟩

/-- A write that touches neither the orders nor a line. -/
theorem State.QuietFrom.of_eq {s t : State} (ho : t.fieldPort.urgent = s.fieldPort.urgent) (hs : t.secs = s.secs)
    (hl : t.station = s.station) : s.QuietFrom t :=
  ⟨fun o h => by rwa [ho] at h, fun i h => by rwa [t.sec_eq s hs] at h, fun h => by rwa [hl] at h⟩

theorem State.quietFrom_modSec {s : State} {i : SecNo} {f : Sec → Sec}
    (line : (f (s.sec i)).ctl.tripLine = true → (s.sec i).ctl.tripLine = true) : s.QuietFrom (s.modSec i f) := by
  refine ⟨fun _ h => h, fun j => ?_, fun h => h⟩
  by_cases hj : i = j
  · subst hj
    rw [State.sec_modSec_self]
    exact line
  · rw [s.sec_modSec_of_ne hj]
    exact id

/-- Against a state with no order queued and no line asserted nothing is new. -/
theorem State.QuietFrom.of_idle {t : State} (ho : t.fieldPort.urgent = []) (hs : ∀ i : SecNo, (t.sec i).ctl.tripLine = false)
    (hl : t.station.tripLine = false) (s : State) : s.QuietFrom t :=
  ⟨fun o h => by simp [ho] at h, fun i h => by simp [hs i] at h, fun h => by simp [hl] at h⟩

theorem State.quietFrom_coldStart (r s : State) (cause : RestartCause) (tag : Option Byte) :
    r.QuietFrom (s.coldStart cause tag) :=
  .of_idle rfl (fun i => by simp [State.coldStart, State.reset, State.sec, coldSec, coldCtl]) rfl r

/-- R5, R7: a write, other than a change into OBSERVE, that leaves the part in OBSERVE found it there and ordered
nothing, or is a cold restart. -/
theorem State.Edit.quiet {s t : State} {k : Part} (e : s.Edit k t) (hk : k ≠ .observe) (ht : t.mode = .observe) :
    (s.mode = .observe ∧ s.QuietFrom t) ∨ ∀ r : State, r.QuietFrom t := by
  cases e with
  | sec _ i f line => exact .inl ⟨ht, State.quietFrom_modSec line⟩
  | assertLine _ i =>
    rcases s.assertLine_cases i with ⟨hm, e⟩ | ⟨hm, e⟩ <;> rw [e] at ht ⊢
    · exact .inl ⟨hm, .refl⟩
    · exact absurd ht hm
  | station _ f line => exact .inl ⟨ht, fun _ h => h, fun _ h => h, line⟩
  | assertStationLine =>
    rcases s.assertStationLine_cases with ⟨hm, e⟩ | ⟨hm, e⟩ <;> rw [e] at ht ⊢
    · exact .inl ⟨hm, .refl⟩
    · exact absurd ht hm
  | mode _ f leaves => exact .inl ⟨leaves ht, .of_eq rfl rfl rfl⟩
  | observe => exact absurd rfl hk
  | queueOrder _ obj k =>
    rcases s.queueOrder_cases obj k with ⟨hm, e⟩ | ⟨hm, e⟩ <;> rw [e] at ht ⊢
    · exact .inl ⟨hm, .refl⟩
    · exact absurd ht hm
  | withdraw _ obj => exact .inl ⟨ht, fun o h => List.mem_of_mem_filter h, fun _ h => h, fun h => h⟩
  | pushNormal _ l m =>
    refine .inl ⟨by simpa [State.mode] using ht, .of_eq ?_ (by simp) (by simp)⟩
    cases l
    · exact s.fieldPort.pushNormal_urgent m
    · rfl
  | port _ l f _ orders =>
    refine .inl ⟨by simpa [State.mode] using ht, ?_⟩
    cases l
    · exact ⟨orders, fun _ h => h, fun h => h⟩
    · exact .of_eq rfl rfl rfl
  | coldStart => exact .inr fun r => r.quietFrom_coldStart s _ _
  | warmRecords => exact .inl ⟨ht, fun o h => absurd h List.not_mem_nil, fun _ h => h, fun h => h⟩
  | clearCounters =>
    refine .inl ⟨ht, fun _ h => h, fun i h => ?_, fun h => h⟩
    simpa [State.clearCounters, State.sec, Sec.cleared] using h
  | releaseAllLines =>
    refine .inl ⟨ht, fun _ h => h, fun i h => ?_, fun h => absurd h Bool.false_ne_true⟩
    simp [State.releaseAllLines, State.sec] at h
  | pins | tick | incidents | vehicles | point | supply | supervisor | commands | bind | tables | store | memory =>
    exact .inl ⟨ht, .of_eq rfl rfl rfl⟩

/-- R192: a write leaves the part loading only where it was, or by a cold restart. -/
theorem State.Edit.loading {s t : State} {k : Part} (e : s.Edit k t) (hk : k ≠ .whole) (ht : t.loading = true) :
    s.loading = true := by
  by_cases hs : k = .store
  · subst hs
    cases e with
    | store _ f load =>
      unfold State.loading at ht
      split at ht
      · exact load _ ‹_›
      · exact absurd ht Bool.false_ne_true
  · have stands : t.store = s.store :=
      State.Edits.store (T := fun j => j = k) (State.Edits.refl.edit rfl e) (fun h => hs h.symm) (fun h => hk h.symm)
    rwa [State.loading, stands] at ht

namespace State.Edits

section
variable {T : Part → Prop} {s t : State}

theorem bounded (h : s.Edits T t) (hs : s.Bounded) : t.Bounded := h.keeps (fun _ _ _ _ e => e.bounded) hs

theorem canonical (h : s.Edits T t) (hs : Memory.wf s.storeMem = true) : Memory.wf t.storeMem = true :=
  h.keeps (P := fun u => Memory.wf u.storeMem = true) (fun _ _ _ _ e => e.canonical) hs

/-- R5, R7: a run of writes without a change into OBSERVE orders nothing where it ends in OBSERVE. -/
theorem quiet (h : s.Edits T t) (ho : ¬T .observe) (ht : t.mode = .observe) : s.QuietFrom t := by
  refine h.keeps (P := fun u => u.mode = .observe → s.QuietFrom u) (fun k u v hk e hu hv => ?_) (fun _ => .refl) ht
  rcases e.quiet (fun hx => ho (hx ▸ hk)) hv with ⟨hm, q⟩ | q
  · exact (hu hm).trans q
  · exact q s

theorem not_loading (h : s.Edits T t) (hw : ¬T .whole) (hs : s.loading = false) : t.loading = false :=
  h.keeps (P := fun u => u.loading = false)
    (fun k u v hk e hu => by
      by_contra hv
      rw [e.loading (fun hx => hw (hx ▸ hk)) (by simpa using hv)] at hu
      cases hu) hs

end

end State.Edits

end Sys2Proof.Machine

namespace Sys2Proof.Machine

open Sys2Proof

/-! ### What the named updates write -/

theorem State.routeTelegram_points (s : State) (kind : Byte) (body : List Byte) :
    (s.routeTelegram kind body).points = s.points := by
  unfold State.routeTelegram
  split
  · rfl
  · exact s.pushNormal_points _ _


/-- R128: a refusal is counted in the point's record. -/
theorem State.point_refuse (s : State) (p : PointNo) (v : Nat) (l : Leg) (r : RouteReason) :
    (s.refuse p v l r).point p = (s.point p).count fun c => { c with refusals := inc16 c.refusals } := by
  rw [State.refuse, State.point_modPoint_self, State.point_eq _ s (s.routeTelegram_points _ _)]

/-- What an operation of one section writes: its records, the incident list, the vehicle table and the transmit queues. -/
def Part.OfSec (i : SecNo) : Part → Prop
  | .sec j => j = i
  | .incidents | .vehicles | .urgent | .normal _ => True
  | _ => False

/-- What the service of a point's queue writes: its record, the supervisor's counters and the Field line queue. -/
def Part.OfQueue (p : PointNo) : Part → Prop
  | .point q => q = p
  | .supervisor | .normal .field => True
  | _ => False

/-- What an operation of a point writes: its record, the supervisor's counters, a vehicle's location, the marks of heads
and the Field line queue. -/
def Part.OfPoint (p : PointNo) : Part → Prop
  | .point q => q = p
  | .supervisor | .vehicles | .heads | .normal .field => True
  | _ => False

/-- What an operation of several blocks writes: everything but the mode, the tables, the store and the ports' own state. -/
def Part.OfBlocks : Part → Prop
  | .sec _ | .station | .incidents | .vehicles | .point _ | .supervisor | .heads | .urgent | .normal _ => True
  | _ => False

theorem Part.ofQueue_le_ofPoint (p : PointNo) : Part.OfQueue p ≤ Part.OfPoint p := by
  intro k hk
  unfold Part.OfQueue at hk
  split at hk
  · exact hk
  · trivial
  · trivial
  · exact hk.elim

theorem Part.queue_le {p : PointNo} {T : Part → Prop} (hT : Part.OfPoint p ≤ T) : Part.OfQueue p ≤ T :=
  (Part.ofQueue_le_ofPoint p).trans hT

theorem Part.ofSec_le_ofBlocks (i : SecNo) : Part.OfSec i ≤ Part.OfBlocks := by
  intro k hk
  cases k <;> trivial

theorem Part.ofPoint_le_ofBlocks (p : PointNo) : Part.OfPoint p ≤ Part.OfBlocks := by
  intro k hk
  unfold Part.OfPoint at hk
  split at hk <;> trivial

namespace State.Edits

section
variable {T : Part → Prop} {s t : State} {i : SecNo}

theorem modSec (hT : T (.sec i)) (h : s.Edits T t) (f : Sec → Sec)
    (line : (f (t.sec i)).ctl.tripLine = true → (t.sec i).ctl.tripLine = true) : s.Edits T (t.modSec i f) :=
  h.edit hT (.sec t i f line)

theorem modCtl (hT : T (.sec i)) (h : s.Edits T t) (f : SectionCtl → SectionCtl)
    (line : (f (t.sec i).ctl).tripLine = true → (t.sec i).ctl.tripLine = true) : s.Edits T (t.modCtl i f) :=
  h.modSec hT _ line

theorem modFeed (hT : T (.sec i)) (h : s.Edits T t) (f : Feeder → Feeder) : s.Edits T (t.modFeed i f) := h.modSec hT _ id

theorem modRcl (hT : T (.sec i)) (h : s.Edits T t) (f : Reclose → Reclose) : s.Edits T (t.modRcl i f) := h.modSec hT _ id

theorem modSel (hT : T (.sec i)) (h : s.Edits T t) (f : Selector → Selector) : s.Edits T (t.modSel i f) := h.modSec hT _ id

theorem setSec (hT : T (.sec i)) (h : s.Edits T t) (st : SecState) (r : SecReason) : s.Edits T (t.setSec i st r) :=
  h.modCtl hT _ id

theorem setPending (hT : T (.sec i)) (h : s.Edits T t) (p : Option PendingOrder) : s.Edits T (t.setPending i p) :=
  h.modCtl hT _ id

theorem setPosition (hT : T (.sec i)) (h : s.Edits T t) (p : Position) : s.Edits T (t.setPosition i p) := h.modSec hT _ id

theorem releaseLine (hT : T (.sec i)) (h : s.Edits T t) : s.Edits T (t.releaseLine i) :=
  h.modCtl hT _ fun e => absurd e Bool.false_ne_true

theorem assertLine (hT : T (.sec i)) (h : s.Edits T t) : s.Edits T (t.assertLine i) := h.edit hT (.assertLine t i)

/-- R15, R20: the line is released where the order used it. -/
theorem releaseLineIf (hT : T (.sec i)) (h : s.Edits T t) (c : Bool) : s.Edits T (if c then t.releaseLine i else t) := by
  split
  · exact h.releaseLine hT
  · exact h

theorem beginBlind (hT : T (.sec i)) (h : s.Edits T t) : s.Edits T (t.beginBlind i) := h.modSel hT _

theorem startBlind (hT : T (.sec i)) (h : s.Edits T t) : s.Edits T (t.startBlind i) := (h.modSec hT _ id).beginBlind hT

theorem activateSection (hT : T (.sec i)) (h : s.Edits T t) : s.Edits T (t.activateSection i) :=
  (h.modSec hT _ fun e => absurd e Bool.false_ne_true).startBlind hT

theorem modStation (hT : T .station) (h : s.Edits T t) (f : Station → Station)
    (line : (f t.station).tripLine = true → t.station.tripLine = true) : s.Edits T (t.modStation f) :=
  h.edit hT (.station t f line)

theorem setStation (hT : T .station) (h : s.Edits T t) (st : StState) (r : StReason) : s.Edits T (t.setStation st r) :=
  h.modStation hT _ id

theorem setStationPending (hT : T .station) (h : s.Edits T t) (p : Option PendingOrder) :
    s.Edits T (t.setStationPending p) := h.modStation hT _ id

theorem releaseStationLine (hT : T .station) (h : s.Edits T t) : s.Edits T t.releaseStationLine :=
  h.modStation hT _ fun e => absurd e Bool.false_ne_true

theorem releaseStationLineIf (hT : T .station) (h : s.Edits T t) (c : Bool) :
    s.Edits T (if c then t.releaseStationLine else t) := by
  split
  · exact h.releaseStationLine hT
  · exact h

theorem assertStationLine (hT : T .station) (h : s.Edits T t) : s.Edits T t.assertStationLine :=
  h.edit hT (.assertStationLine t)

theorem queueOrder (hT : T .urgent) (h : s.Edits T t) (obj : BreakerObj) (k : OrderKind) : s.Edits T (t.queueOrder obj k) :=
  h.edit hT (.queueOrder t obj k)

theorem withdraw (hT : T .urgent) (h : s.Edits T t) (obj : BreakerObj) : s.Edits T (t.withdraw obj) :=
  h.edit hT (.withdraw t obj)

theorem pushNormal {l : Line} (hT : T (.normal l)) (h : s.Edits T t) (m : Telegram) : s.Edits T (t.pushNormal l m) :=
  h.edit hT (.pushNormal t l m)

theorem pushAll {l : Line} (hT : T (.normal l)) (h : s.Edits T t) (ms : List Telegram) : s.Edits T (t.pushAll l ms) :=
  List.foldlRecOn (motive := s.Edits T) ms _ h fun _ k m _ => k.pushNormal hT m

theorem setIncidents (hT : T .incidents) (h : s.Edits T t) (l : IncidentList) : s.Edits T { t with incidents := l } :=
  h.edit hT (.incidents t l)

theorem modRecord (hT : T .incidents) (h : s.Edits T t) (n : Nat) (f : Incident → Incident) :
    s.Edits T (t.modRecord n f) := h.setIncidents hT _

theorem modVehicles (hT : T .vehicles) (h : s.Edits T t) (f : VehicleTable → VehicleTable) : s.Edits T (t.modVehicles f) :=
  h.edit hT (.vehicles t f)

theorem modVehicle (hT : T .vehicles) (h : s.Edits T t) (n : Nat) (f : Vehicle → Vehicle) : s.Edits T (t.modVehicle n f) :=
  h.modVehicles hT _

theorem requestPolesDown (hn : T (.normal .field)) (hv : T .vehicles) (h : s.Edits T t) (n incident : Nat) :
    s.Edits T (t.requestPolesDown n incident) := by
  unfold State.requestPolesDown
  split
  · exact h
  split
  · exact h
  split
  · exact h.modVehicles hv _
  · exact ((h.pushNormal hn _).modVehicle hv _ _).modVehicles hv _

theorem askPolesDown (hn : T (.normal .field)) (hv : T .vehicles) (h : s.Edits T t) (i : SecNo) :
    s.Edits T (t.askPolesDown i) := by
  unfold State.askPolesDown
  split
  · exact h
  · exact List.foldlRecOn (motive := s.Edits T) _ _ h fun _ k _ _ => k.requestPolesDown hn hv _ _

end

/-! Points (R117 to R136) -/

section
variable {T : Part → Prop} {s t : State} {p : PointNo}

theorem modPoint (hT : T (.point p)) (h : s.Edits T t) (f : Point → Point)
    (within : (t.point p).Bounded → (f (t.point p)).Bounded) (told : (f (t.point p)).supplyLive = (t.point p).supplyLive) :
    s.Edits T (t.modPoint p f) := h.edit hT (.point t p f within told)

theorem modSupervisor (hT : T .supervisor) (h : s.Edits T t) (f : SupervisorCounters → SupervisorCounters) :
    s.Edits T (t.modSupervisor f) := h.edit hT (.supervisor t f)

theorem routeTelegram (hs : T .supervisor) (hn : T (.normal .field)) (h : s.Edits T t) (kind : Byte) (body : List Byte) :
    s.Edits T (t.routeTelegram kind body) := by
  unfold State.routeTelegram
  split
  · exact h.modSupervisor hs _
  · exact h.pushNormal hn _

variable (hT : Part.OfQueue p ≤ T)
include hT

theorem refuse (h : s.Edits T t) (v : Nat) (l : Leg) (r : RouteReason) : s.Edits T (t.refuse p v l r) :=
  (h.routeTelegram (hT _ trivial) (hT _ trivial) _ _).modPoint (hT _ rfl) _ (fun b => ⟨b.occupancy, b.queue⟩) rfl

/-- R117: a queue that shrinks. -/
theorem setQueue (h : s.Edits T t) (q : List Request) (hq : (t.point p).Bounded → q.length ≤ requestPlaces) :
    s.Edits T (t.modPoint p fun x => { x with queue := q }) :=
  h.modPoint (hT _ rfl) _ (fun b => ⟨b.occupancy, hq b⟩) rfl

theorem refuseAll (h : s.Edits T t) (r : RouteReason) : s.Edits T (t.refuseAll p r) :=
  (List.foldlRecOn (motive := s.Edits T) _ _ h fun _ k _ _ => k.refuse hT _ _ _).setQueue hT [] fun _ => Nat.zero_le _

theorem throwPoint (h : s.Edits T t) (l : Leg) (o : ThrowOrigin) : s.Edits T (t.throwPoint p l o) :=
  (h.pushNormal (hT (.normal .field) trivial) _).modPoint (hT _ rfl) _ (fun b => ⟨b.occupancy, b.queue⟩) rfl

theorem grant (h : s.Edits T t) (q : Request) (rest : List Request)
    (hq : (t.point p).Bounded → (q :: rest).length ≤ requestPlaces) : s.Edits T (t.grant p q rest) :=
  (h.routeTelegram (hT _ trivial) (hT _ trivial) _ _).modPoint (hT _ rfl) _
    (fun b => ⟨b.occupancy, hq (by rwa [State.point_eq _ t (State.routeTelegram_points ..)] at b)⟩) rfl

/-- R125: `q` is the point's queue, or as short. -/
theorem serveQueue (q : List Request) : ∀ {t : State}, s.Edits T t → ((t.point p).Bounded → q.length ≤ requestPlaces) →
    s.Edits T (t.serveQueue p q) := by
  induction q with
  | nil => exact fun h _ => h
  | cons head rest ih =>
    intro t h hq
    have shorter (b : (t.point p).Bounded) : rest.length ≤ requestPlaces := (Nat.le_succ _).trans (hq b)
    have refused (r : RouteReason) := ih ((h.refuse hT head.vehicle head.leg r).setQueue hT rest fun b => by
      rw [State.point_refuse] at b
      exact shorter ⟨b.occupancy, b.queue⟩) fun b => by simpa using b.queue
    unfold State.serveQueue
    dsimp only
    split
    · exact h
    split
    · exact refused _
    split
    · exact refused _
    split
    · exact refused _
    split
    · split
      · exact h
      · exact h.grant hT _ _ hq
    split
    · exact h
    split
    · exact h.throwPoint hT _ _
    · exact h

theorem serve (h : s.Edits T t) : s.Edits T (t.serve p) := h.serveQueue hT _ fun b => b.queue

theorem pointFault (h : s.Edits T t) : s.Edits T (t.pointFault p) := by
  unfold State.pointFault
  split
  · exact h
  · exact (h.modPoint (hT _ rfl) _ (fun b => ⟨b.occupancy, b.queue⟩) rfl).refuseAll hT _

end

end State.Edits

end Sys2Proof.Machine

namespace Sys2Proof.Machine

open Sys2Proof

/-! ### What the operations of an event write -/

/-- The writes of an event from `d` to `e`, which began at the same state; heads are marked where `T` says so. -/
structure Ev.Edits (T : Part → Prop) (d e : Ev) : Prop where
  old : e.old = d.old
  state : d.s.Edits T e.s
  heads : T .heads ∨ e.serve = d.serve

namespace Ev.Edits

section
variable {T : Part → Prop} {d e : Ev}

theorem refl : d.Edits T d := ⟨rfl, .refl, .inr rfl⟩

theorem trans {f : Ev} (h : d.Edits T e) (k : e.Edits T f) : d.Edits T f :=
  ⟨k.old.trans h.old, h.state.trans k.state, by
    rcases h.heads with hd | hd
    · exact .inl hd
    · exact k.heads.imp_right fun hf => hf.trans hd⟩

theorem mono {U : Part → Prop} (h : d.Edits T e) (hT : T ≤ U) : d.Edits U e :=
  ⟨h.old, h.state.mono hT, h.heads.imp_left (hT _)⟩

theorem mod (h : d.Edits T e) {f : State → State} (hf : e.s.Edits T (f e.s)) : d.Edits T (e.mod f) :=
  ⟨h.old, h.state.trans hf, h.heads⟩

theorem incidentReport (h : d.Edits T e) (m : Telegram) : d.Edits T (e.incidentReport m) := ⟨h.old, h.state, h.heads⟩

theorem vehicleReport (h : d.Edits T e) (m : Telegram) : d.Edits T (e.vehicleReport m) := ⟨h.old, h.state, h.heads⟩

theorem answer (h : d.Edits T e) (l : Line) (m : Telegram) : d.Edits T (e.answer l m) := ⟨h.old, h.state, h.heads⟩

theorem serveHead (hT : T .heads) (h : d.Edits T e) (p : PointNo) : d.Edits T (e.serveHead p) :=
  ⟨by rw [Ev.serveHead_old, h.old], by rw [Ev.serveHead_s]; exact h.state, .inl hT⟩

theorem ite {c : Prop} [Decidable c] {f : Ev} (h : c → d.Edits T e) (k : ¬c → d.Edits T f) :
    d.Edits T (if c then e else f) := by
  split
  · exact h ‹_›
  · exact k ‹_›

theorem forSecs (h : d.Edits T e) (f : Ev → SecNo → Ev) (hf : ∀ (e : Ev) (i : SecNo), d.Edits T e → d.Edits T (f e i)) :
    d.Edits T (e.forSecs f) := List.foldlRecOn (motive := d.Edits T) _ _ h fun e k i _ => hf e i k

theorem forPoints (h : d.Edits T e) (f : Ev → PointNo → Ev) (hf : ∀ (e : Ev) (p : PointNo), d.Edits T e → d.Edits T (f e p)) :
    d.Edits T (e.forPoints f) := List.foldlRecOn (motive := d.Edits T) _ _ h fun e k p _ => hf e p k

theorem selectorReport (h : d.Edits T e) (l : List SecNo) : d.Edits T { e with selectorReports := l } :=
  ⟨h.old, h.state, h.heads⟩

/-! Incidents -/

theorem reportIncident (h : d.Edits T e) (n : Nat) (c : IncCause) : d.Edits T (e.reportIncident n c) := by
  unfold Ev.reportIncident
  split
  · exact h
  · exact h.incidentReport _

theorem addIncident (hT : T .incidents) (h : d.Edits T e) (r : Incident) : d.Edits T (e.addIncident r) :=
  (h.mod (.setIncidents hT .refl _)).reportIncident _ _

theorem recordClosed (hT : T .incidents) (h : d.Edits T e) (k : IncKind) (obj : IncObject) (x : Option Detail)
    (c : Option Captured) : d.Edits T (e.recordClosed k obj x c) := h.addIncident hT _

theorem continueTrip (hT : T .incidents) (h : d.Edits T e) (n : Nat) (k : TripKind) (c : Option Captured) :
    d.Edits T (e.continueTrip n k c) := (h.mod (.modRecord hT .refl _ _)).reportIncident _ _

theorem addShot (hT : T .incidents) (h : d.Edits T e) (i : SecNo) (n : Nat) (o : ShotOutcome) :
    d.Edits T (e.addShot i n o) := by
  unfold Ev.addShot
  split
  · exact h
  · exact (h.mod (.modRecord hT .refl _ _)).reportIncident _ _

theorem closeIncident (hT : T .incidents) (hv : T .vehicles) (h : d.Edits T e) (i : SecNo) (o : IncOutcome) :
    d.Edits T (e.closeIncident i o) := by
  unfold Ev.closeIncident
  split
  · exact h
  · exact (List.foldlRecOn (motive := d.Edits T) _ _ (h.mod (.modRecord hT .refl _ _))
      fun _ k _ _ => k.mod (.modVehicle hv .refl _ _)).reportIncident _ _

end

/-! Operations of one section -/

section
variable {T : Part → Prop} {d e : Ev} {i : SecNo} (hT : Part.OfSec i ≤ T)
include hT

/-! The reclose unit -/

theorem lockout (h : d.Edits T e) (r : SecReason) : d.Edits T (e.lockout i r) :=
  (h.mod (.modRcl (hT _ rfl) (.setSec (hT _ rfl) .refl _ _) _)).closeIncident (hT _ trivial) (hT _ trivial) _ _

theorem cancelSequence (h : d.Edits T e) : d.Edits T (e.cancelSequence i) := by
  unfold Ev.cancelSequence
  split
  · exact h
  · refine h.mod ?_
    dsimp only
    have ended : e.s.Edits T (e.s.modRcl i Reclose.ended) := .modRcl (hT _ rfl) .refl _
    split
    · exact ended
    · exact (ended.modRcl (hT _ rfl) _).modCtl (hT _ rfl) _ id

theorem closeThenCancel (h : d.Edits T e) (o : IncOutcome) : d.Edits T ((e.closeIncident i o).cancelSequence i) :=
  (h.closeIncident (hT _ trivial) (hT _ trivial) i o).cancelSequence hT

theorem startDeadTime (h : d.Edits T e) (n : Nat) : d.Edits T (e.startDeadTime i n) := by
  have started (x : Reclose → Reclose) (y : Reclose → Reclose) :
      e.s.Edits T (((e.s.setSec i .waiting .shot).modRcl i x).modRcl i y) :=
    (State.Edits.modRcl (hT _ rfl) (.setSec (hT _ rfl) .refl _ _) _).modRcl (hT _ rfl) _
  unfold Ev.startDeadTime
  dsimp only
  split
  · exact (h.mod (started _ _)).lockout hT _
  · exact (h.mod (started _ _)).mod (.askPolesDown (hT (.normal .field) trivial) (hT _ trivial) .refl _)

theorem shotFailed (h : d.Edits T e) (o : ShotOutcome) : d.Edits T (e.shotFailed i o) := by
  have ended := (h.addShot (hT _ trivial) i (e.s.sec i).rcl.shots o).mod
    (f := fun s => s.modRcl i fun r => { r with lineTest := none }) (.modRcl (hT _ rfl) .refl _)
  unfold Ev.shotFailed
  dsimp only
  split
  · exact ended.lockout hT _
  split
  · exact ended.lockout hT _
  · exact ended.startDeadTime hT _

theorem closeRequest (h : d.Edits T e) : d.Edits T (e.closeRequest i) := by
  unfold Ev.closeRequest
  split
  · split
    · exact h.mod (.modRcl (hT _ rfl) (.setSec (hT _ rfl) (.setPending (hT _ rfl) (.queueOrder (hT _ trivial) .refl _ _) _) _ _) _)
    · exact h.shotFailed hT _
  · exact h

theorem beginShot (h : d.Edits T e) : d.Edits T (e.beginShot i) := by
  unfold Ev.beginShot
  split
  · exact h
  split
  · exact h.lockout hT _
  dsimp only
  split
  · exact (h.mod (.modRcl (hT _ rfl) .refl _)).mod
      (.pushNormal (hT (.normal .field) trivial) (.modRcl (hT _ rfl) (.setSec (hT _ rfl) .refl _ _) _) _)
  · exact (h.mod (.modRcl (hT _ rfl) .refl _)).closeRequest hT

theorem reevaluate (h : d.Edits T e) (g : Gate) : d.Edits T (e.reevaluate i g) := by
  unfold Ev.reevaluate
  split
  · have judged : d.Edits T (e.mod fun s =>
        s.modRcl i fun r => { r with gates := r.gates.put g (s.gateHolds i g) }) := h.mod (.modRcl (hT _ rfl) .refl _)
    dsimp only
    split
    · exact judged.lockout hT _
    split
    · exact judged.beginShot hT
    · exact judged
  · exact h

theorem reevaluateIf (h : d.Edits T e) (c : Prop) [Decidable c] (g : Gate) :
    d.Edits T (if c then e.reevaluate i g else e) := .ite (fun _ => h.reevaluate hT g) fun _ => h

theorem tripConfirmed (h : d.Edits T e) (k : Option TripKind) : d.Edits T (e.tripConfirmed i k) := by
  have kept : d.Edits T (e.mod fun s => s.modRcl i fun r => { r with tripKind := k }) := h.mod (.modRcl (hT _ rfl) .refl _)
  unfold Ev.tripConfirmed
  dsimp only
  split
  · exact kept.lockout hT _
  split
  · exact kept.lockout hT _
  split
  · exact kept.lockout hT _
  · exact (kept.mod (.modRcl (hT _ rfl) .refl _)).startDeadTime hT _

theorem closeConfirmed (h : d.Edits T e) : d.Edits T (e.closeConfirmed i) :=
  (h.addShot (hT _ trivial) _ _ _).mod (.modRcl (hT _ rfl) .refl _)

theorem reclaimOver (h : d.Edits T e) : d.Edits T (e.reclaimOver i) :=
  ((h.mod (.modRcl (hT _ rfl) .refl _)).closeIncident (hT _ trivial) (hT _ trivial) _ _).mod (.modCtl (hT _ rfl) .refl _ id)

theorem tripInReclaim (h : d.Edits T e) : d.Edits T (e.tripInReclaim i) :=
  .ite (fun _ => h.mod (.modRcl (hT _ rfl) .refl _)) fun _ => h

theorem retripped (h : d.Edits T e) : d.Edits T (e.retripped i) :=
  (h.addShot (hT _ trivial) _ _ _).mod (.modRcl (hT _ rfl) .refl _)

theorem lineTestResult (h : d.Edits T e) (x : BitVec 16) : d.Edits T (e.lineTestResult i x) := by
  have recorded (f : State → Reclose → Reclose) : d.Edits T (e.mod fun s => s.modRcl i (f s)) :=
    h.mod (.modRcl (hT _ rfl) .refl _)
  exact .ite (fun _ => .ite (fun _ => (recorded _).shotFailed hT _) fun _ =>
    ((recorded _).mod (.modRcl (hT _ rfl) .refl _)).closeRequest hT) fun _ => recorded _

theorem modeActsOn (h : d.Edits T e) (m : Mode) : d.Edits T (e.modeActsOn m i) := by
  unfold Ev.modeActsOn
  dsimp only
  split
  · exact .ite (fun _ => h.lockout hT _) fun _ => h
  · exact .ite (fun _ => h.lockout hT _) fun _ => h
  · exact h

/-! Attribution -/

theorem attach (h : d.Edits T e) (n v : Nat) (f : FaultCode) (located : Bool) : d.Edits T (e.attach i n v f located) := by
  unfold Ev.attach
  split
  · exact h
  · refine ((mod (.ite (fun _ => ?room) fun _ => ?full) (.requestPolesDown (hT (.normal .field) trivial) (hT _ trivial) .refl
      v n)).reevaluateIf hT _ .vehicles).reportIncident _ _
    case room => exact h.mod (.modVehicle (hT _ trivial) (.modRecord (hT _ trivial) .refl _ _) _ _)
    case full => exact h.mod (.modRecord (hT _ trivial) .refl _ _)

theorem openTrip (h : d.Edits T e) (k : TripKind) (c : Option Captured) : d.Edits T (e.openTrip i k c) :=
  List.foldlRecOn (motive := d.Edits T) _ _ ((h.addIncident (hT _ trivial) _).mod (.modCtl (hT _ rfl) .refl _ id))
    fun _ k _ _ => k.attach hT _ _ _ _

theorem recordTrip (h : d.Edits T e) (k : TripKind) (c : Option Captured) : d.Edits T (e.recordTrip i k c) := by
  unfold Ev.recordTrip
  split
  · exact h.continueTrip (hT _ trivial) _ _ _
  · exact h.openTrip hT _ _

theorem openCommanded (h : d.Edits T e) : d.Edits T (e.openCommanded i) := by
  unfold Ev.openCommanded
  exact (h.addIncident (hT _ trivial) _).mod (.modCtl (hT _ rfl) .refl _ id)

/-! The section controller -/

theorem tripDecision (h : d.Edits T e) (x : Decision) : d.Edits T (e.tripDecision i x) := by
  unfold Ev.tripDecision
  dsimp only
  split
  · have tripped := (h.mod (f := fun s => ((((s.queueOrder (.sec i) .trip).assertLine i).setPending i
        (some (s.order .trip .protection (some x.kind) true))).setSec i .tripping x.kind.reason))
      (.setSec (hT _ rfl) (.setPending (hT _ rfl) (.assertLine (hT _ rfl) (.queueOrder (hT _ trivial) .refl _ _)) _) _ _)).recordTrip
        hT x.kind (some x.captured)
    exact .ite (fun _ => tripped.retripped hT) fun _ => tripped.tripInReclaim hT
  · exact h

theorem trippedOpen (h : d.Edits T e) (k : Option TripKind) : d.Edits T (e.trippedOpen i k) :=
  .ite (fun _ => h.tripConfirmed hT k) fun _ => (h.mod (.setSec (hT _ rfl) .refl _ _)).closeThenCancel hT _

theorem confirmTrip (h : d.Edits T e) : d.Edits T (e.confirmTrip i) := by
  have released : d.Edits T (e.mod fun s => (s.releaseLine i).setPending i none) :=
    h.mod (.setPending (hT _ rfl) (.releaseLine (hT _ rfl) .refl) _)
  unfold Ev.confirmTrip
  dsimp only
  split
  · split
    · exact (released.mod (.modCtl (hT _ rfl) (.setSec (hT _ rfl) .refl _ _) _ id)).closeIncident (hT _ trivial)
        (hT _ trivial) _ _
    · exact released
  · exact released.trippedOpen hT _

theorem localTrip (h : d.Edits T e) : d.Edits T (e.localTrip i) := by
  have cleared : d.Edits T (e.mod fun s => s.setPending i none) := h.mod (.setPending (hT _ rfl) .refl _)
  exact ((Ev.Edits.ite (fun _ => cleared.retripped hT) fun _ => cleared.tripInReclaim hT).recordTrip hT _ _).trippedOpen hT _

theorem sectionClose (h : d.Edits T e) : d.Edits T (e.sectionClose i).1 := by
  unfold Ev.sectionClose
  dsimp only
  split
  · split
    · dsimp only
      exact h.mod (.setSec (hT _ rfl) (.setPending (hT _ rfl) (.queueOrder (hT _ trivial) .refl _ _) _) _ _)
    · exact h
  · exact h

theorem confirmClose (h : d.Edits T e) : d.Edits T (e.confirmClose i) := by
  have live (r : SecReason) : d.Edits T (e.mod fun s => (s.setSec i .live r).setPending i none) :=
    h.mod (.setPending (hT _ rfl) (.setSec (hT _ rfl) .refl _ _) _)
  exact .ite (fun _ => (live _).closeConfirmed hT) fun _ => live _

theorem closeFails (h : d.Edits T e) : d.Edits T (e.closeFails i) := by
  have withdrawn : d.Edits T (e.mod fun s => (s.setPending i none).withdraw (.sec i)) :=
    h.mod (.withdraw (hT _ trivial) (.setPending (hT _ rfl) .refl _) _)
  exact .ite (fun _ => withdrawn.shotFailed hT _) fun _ => withdrawn.mod (.setSec (hT _ rfl) .refl _ _)

theorem leaveSequence (h : d.Edits T e) (o : IncOutcome) : d.Edits T (e.leaveSequence i o) :=
  .ite (fun _ => h) fun _ => h.closeThenCancel hT o

theorem sectionOpen (h : d.Edits T e) (trip : Bool) : d.Edits T (e.sectionOpen i trip).1 := by
  unfold Ev.sectionOpen
  dsimp only
  split
  · refine leaveSequence hT (h.mod (.setSec (hT _ rfl) (.setPending (hT _ rfl) ?_ _) _ _)) _
    split
    · exact .assertLine (hT _ rfl) (.queueOrder (hT _ trivial) .refl _ _)
    · exact .queueOrder (hT _ trivial) .refl _ _
  · split
    · exact (h.mod (.setSec (hT _ rfl) .refl _ _)).closeThenCancel hT _
    · exact (h.mod (.setSec (hT _ rfl) .refl _ _)).closeThenCancel hT _
    · exact h
  · exact h

theorem confirmOpen (h : d.Edits T e) : d.Edits T (e.mod fun s => s.confirmOpen i) :=
  h.mod (.setSec (hT _ rfl) (.setPending (hT _ rfl) (.releaseLineIf (hT _ rfl) .refl _) _) _ _)

theorem openFails (h : d.Edits T e) : d.Edits T (e.openFails i) :=
  (h.mod (.setSec (hT _ rfl) (.setPending (hT _ rfl) (.releaseLineIf (hT _ rfl) .refl _) _) _ _)).recordClosed
    (hT _ trivial) _ _ _ _

theorem breakerLockout (h : d.Edits T e) (c : FailCause) : d.Edits T (e.breakerLockout i c) :=
  ((h.mod (.modCtl (hT _ rfl) (.setPending (hT _ rfl) (.setSec (hT _ rfl) .refl _ _) _) _ id)).closeThenCancel hT _).recordClosed
    (hT _ trivial) _ _ _ _

theorem closeAgainstLock (h : d.Edits T e) : d.Edits T (e.closeAgainstLock i) :=
  .ite (fun _ => h) fun _ => (h.mod (.setSec (hT _ rfl) (.setPending (hT _ rfl) (.assertLine (hT _ rfl)
    (.queueOrder (hT _ trivial) (.modCtl (hT _ rfl) .refl _ id) _ _)) _) _ _)).openCommanded hT

theorem failedLockedOut (h : d.Edits T e) : d.Edits T (e.failedLockedOut i) :=
  .ite (fun _ => h) fun _ => (h.mod (.setSec (hT _ rfl) .refl _ _)).recordClosed (hT _ trivial) _ _ _ _

theorem closedInSequence (h : d.Edits T e) : d.Edits T (e.closedInSequence i) :=
  (h.mod (.setSec (hT _ rfl) .refl _ _)).closeThenCancel hT _

theorem sectionReset (h : d.Edits T e) : d.Edits T (e.sectionReset i).1 := by
  unfold Ev.sectionReset
  split
  · exact h
  split
  · dsimp only
    exact h.mod (.setSec (hT _ rfl) (.modCtl (hT _ rfl) (.modRcl (hT _ rfl) (.releaseLine (hT _ rfl) .refl) _) _ id) _ _)
  · exact h

theorem sectionIsolate (h : d.Edits T e) (force : Bool) : d.Edits T (e.sectionIsolate i force).1 := by
  unfold Ev.sectionIsolate
  split
  · exact h
  split
  · exact h
  split
  · exact h
  · dsimp only
    exact h.mod (.setSec (hT _ rfl) .refl _ _)

theorem sectionRelease (h : d.Edits T e) : d.Edits T (e.sectionRelease i).1 := by
  unfold Ev.sectionRelease
  split
  · dsimp only
    exact h.mod (.setSec (hT _ rfl) .refl _ _)
  · exact h

theorem derive (h : d.Edits T e) : d.Edits T (e.derive i) :=
  .ite (fun _ => h.mod (.setSec (hT _ rfl) .refl _ _)) fun _ => h

/-! Protection -/

theorem wouldTrip (h : d.Edits T e) (x : Decision) : d.Edits T (e.wouldTrip i x) :=
  .ite (fun _ => (h.mod (.modFeed (hT _ rfl) .refl _)).recordClosed (hT _ trivial) _ _ _ _) fun _ => h

theorem giveDecision (h : d.Edits T e) (x : Decision) : d.Edits T (e.giveDecision i x) :=
  .ite (fun _ => h.wouldTrip hT x) fun _ => h.tripDecision hT x

theorem checkUnexplained (h : d.Edits T e) (current : Int) (saturated : Bool) :
    d.Edits T (e.checkUnexplained i current saturated) := by
  have run (f : Feeder → Feeder) : d.Edits T (e.mod fun s => s.modFeed i f) := h.mod (.modFeed (hT _ rfl) .refl _)
  unfold Ev.checkUnexplained
  dsimp only
  split
  · exact run _
  split
  · exact ((run _).mod (.modFeed (hT _ rfl) .refl _)).recordClosed (hT _ trivial) _ _ _ _
  · exact run _

theorem checkReverse (h : d.Edits T e) (current : Int) (saturated : Bool) (credit : Nat) :
    d.Edits T (e.checkReverse i current saturated credit) := by
  have run (f : Feeder → Feeder) : d.Edits T (e.mod fun s => s.modFeed i f) := h.mod (.modFeed (hT _ rfl) .refl _)
  unfold Ev.checkReverse
  dsimp only
  split
  · exact run _
  split
  · exact run _
  split
  · exact h
  split
  · exact ((run _).mod (.modFeed (hT _ rfl) .refl _)).recordClosed (hT _ trivial) _ _ _ _
  · exact run _

theorem tellCrossing (h : d.Edits T e) (before : Nat) : d.Edits T (e.tellCrossing i before) :=
  .ite (fun _ => h) fun _ => (h.mod (.modFeed (hT _ rfl) .refl _)).reevaluate hT _

theorem compute (h : d.Edits T e) (tick : Tick) (raw : Int) : d.Edits T (e.compute i tick raw) := by
  unfold Ev.compute
  dsimp only
  split
  · exact h.mod (.modFeed (hT _ rfl) .refl _)
  · have told (f : Feeder → Feeder) (n : Nat) := (h.mod (f := fun s => s.modFeed i f)
      (.modFeed (hT _ rfl) .refl _)).tellCrossing hT n
    refine (checkUnexplained hT ?_ _ _).checkReverse hT _ _ _
    split
    · exact told _ _
    · exact (told _ _).giveDecision hT _

/-! The source selector -/

theorem setSelector (h : d.Edits T e) (st : SelState) : d.Edits T (e.setSelector i st) := by
  unfold Ev.setSelector
  dsimp only
  split
  · exact h
  · have turned (x : Selector → Selector) (f : List SecNo) :=
      ((h.mod (f := fun s => (s.modSel i x).modFeed i Feeder.sourceChanged)
        (.modFeed (hT _ rfl) (.modSel (hT _ rfl) .refl _) _)).selectorReport f).reevaluate hT .source
    split
    · exact (((turned _ _).mod (.modSel (hT _ rfl) .refl _)).recordClosed (hT _ trivial) _ _ _ _).mod
        (.beginBlind (hT _ rfl) .refl)
    · exact turned _ _

theorem afterStale (h : d.Edits T e) (r : SourceRole) : d.Edits T (e.afterStale i r) := by
  unfold Ev.afterStale
  dsimp only
  split
  · exact h.setSelector hT _
  · exact h.setSelector hT _
  · exact h

/-- A change of a source record asserts no line. -/
theorem setSource (h : d.Edits T e) (r : SourceRole) (v : State → Sec → Source) :
    d.Edits T (e.mod fun s => s.modSec i fun x => x.setSource r (v s x)) :=
  h.mod (.modSec (hT _ rfl) .refl _ (by cases r <;> exact id))

theorem staleExpiry (h : d.Edits T e) (r : SourceRole) : d.Edits T (e.staleExpiry i r) :=
  .ite (fun _ => (h.setSource hT r fun _ _ => coldSource).afterStale hT r) fun _ => h

theorem afterSample (h : d.Edits T e) (r : SourceRole) : d.Edits T (e.afterSample i r) := by
  unfold Ev.afterSample
  dsimp only
  split
  · split
    · exact h.setSelector hT _
    · exact h.setSelector hT _
    · exact h.setSelector hT _
    · exact h
  · exact h

theorem takeSample (h : d.Edits T e) (r : SourceRole) (x : Tick × Int) : d.Edits T (e.takeSample i r x) := by
  have taken := (h.setSource hT r fun s y => (y.source r).take x.1 s.partTime).afterSample hT r
  exact .ite (fun _ => taken.compute hT _ _) fun _ => taken

theorem sampleTelegram (h : d.Edits T e) (r : SourceRole) (x : Option (List (Tick × Int))) :
    d.Edits T (e.sampleTelegram i r x) := by
  unfold Ev.sampleTelegram
  split
  · exact h
  split
  · exact h.mod (.modFeed (hT _ rfl) .refl _)
  split
  · exact h
  · exact List.foldlRecOn (motive := d.Edits T) _ _ h fun _ k _ _ => k.takeSample hT _ _

theorem blindDecision (h : d.Edits T e) : d.Edits T (e.blindDecision i) :=
  .ite (fun _ => h.giveDecision hT _) fun _ => h

theorem takeBlindExpiry (h : d.Edits T e) : d.Edits T (e.takeBlindExpiry i) :=
  (h.mod (.modSel (hT _ rfl) .refl _)).blindDecision hT

theorem blindExpiry (h : d.Edits T e) : d.Edits T (e.blindExpiry i) :=
  .ite (fun _ => h.takeBlindExpiry hT) fun _ => h

theorem deactivateSection (h : d.Edits T e) : d.Edits T (e.deactivateSection i) :=
  (h.closeIncident (hT _ trivial) (hT _ trivial) _ _).mod (.modSec (hT _ rfl) .refl _ fun x => absurd x Bool.false_ne_true)

theorem reloadSection (h : d.Edits T e) (old : SectionEntry) : d.Edits T (e.reloadSection i old) := by
  have emptied := h.setSource hT .secondary fun _ _ => coldSource
  unfold Ev.reloadSection
  extract_lets new sourced x
  have h : d.Edits T sourced := .ite (fun _ => emptied.afterStale hT _) fun _ => .ite (fun _ => emptied) fun _ => h
  split
  · split
    · exact h
    · exact .ite (fun _ => .ite (fun _ => h.takeBlindExpiry hT) fun _ => h.mod (.modSel (hT _ rfl) .refl _)) fun _ =>
        h.mod (.modSel (hT _ rfl) .refl _)
  · exact h

/-! Expiries of a section -/

theorem closeConfirmTimeExpiry (h : d.Edits T e) : d.Edits T (e.closeConfirmTimeExpiry i) :=
  .ite (fun _ => h.closeFails hT) fun _ => h

theorem sectionOpenExpiry (h : d.Edits T e) : d.Edits T (e.sectionOpenExpiry i) :=
  .ite (fun _ => h.openFails hT) fun _ => h

theorem deadTimeExpiry (h : d.Edits T e) : d.Edits T (e.deadTimeExpiry i) :=
  .ite (fun _ => (h.mod (.modRcl (hT _ rfl) .refl _)).reevaluate hT _) fun _ => h

theorem holdExpiry (h : d.Edits T e) : d.Edits T (e.holdExpiry i) := by
  have overdue : d.Edits T (e.mod fun s => s.modRcl i fun r => { r with hold := none, holdOverdue := true }) :=
    h.mod (.modRcl (hT _ rfl) .refl _)
  exact .ite (fun _ => .ite (fun _ => overdue.lockout hT _) fun _ => overdue) fun _ => h

theorem lineTestExpiry (h : d.Edits T e) : d.Edits T (e.lineTestExpiry i) :=
  .ite (fun _ => h.shotFailed hT _) fun _ => h

theorem reclaimExpiry (h : d.Edits T e) : d.Edits T (e.reclaimExpiry i) :=
  .ite (fun _ => h.reclaimOver hT) fun _ => h

theorem warmSection (h : d.Edits T e) : d.Edits T (e.warmSection i) := by
  unfold Ev.warmSection
  extract_lets st f
  have h : d.Edits T f := .ite (fun _ => h.lockout hT _) fun _ => h
  refine h.mod ?_
  dsimp only
  split
  · refine .startBlind (hT _ rfl) (.modSec (hT _ rfl) .refl _ ?_)
    exact id
  · refine .modSec (hT _ rfl) .refl _ ?_
    exact id

end

end Ev.Edits

end Sys2Proof.Machine

namespace Sys2Proof.Machine

open Sys2Proof

/-- R122: the occupancy never passes 3. -/
theorem Point.Bounded.approach {x : Point} (h : x.Bounded) : x.approach.Bounded := by
  unfold Point.approach
  split
  · exact ⟨by assumption, h.queue⟩
  · exact ⟨h.occupancy, h.queue⟩

theorem Point.Bounded.leave {x : Point} (h : x.Bounded) : x.leave.Bounded := by
  unfold Point.leave
  split
  · exact ⟨(Nat.sub_le _ _).trans h.occupancy, h.queue⟩
  · exact ⟨h.occupancy, h.queue⟩

@[simp] theorem Point.approach_supplyLive (x : Point) : x.approach.supplyLive = x.supplyLive := by
  unfold Point.approach
  split <;> rfl

@[simp] theorem Point.leave_supplyLive (x : Point) : x.leave.supplyLive = x.supplyLive := by
  unfold Point.leave
  split <;> rfl

/-- R123: a passage never lengthens the queue. -/
theorem length_clearQueue_le (v : Nat) (q : List Request) : (clearQueue v q).length ≤ q.length := by
  have served : (match q with
      | h :: rest => if h.granted.isSome && (v == 0 || h.vehicle == v) then rest else q
      | [] => []).length ≤ q.length := by
    split
    · split
      · exact Nat.le_succ _
      · exact le_rfl
    · exact le_rfl
  unfold clearQueue
  dsimp only
  split
  · exact served
  · exact (List.length_filter_le _ _).trans served

theorem Point.Bounded.cleared {x : Point} (h : x.Bounded) : x.cleared.Bounded := by
  unfold Point.cleared
  dsimp only
  split
  · exact ⟨Nat.zero_le _, h.queue⟩
  · exact ⟨Nat.zero_le _, h.queue⟩

@[simp] theorem Point.cleared_supplyLive (x : Point) : x.cleared.supplyLive = x.supplyLive := by
  unfold Point.cleared
  dsimp only
  split <;> rfl

namespace Ev.Edits

/-! Operations of a point -/

section
variable {T : Part → Prop} {d e : Ev} {p : PointNo} (hT : Part.OfPoint p ≤ T)
include hT

/-- A change of the point's record apart from its queue, its occupancy and its supply flag. -/
theorem point (h : d.Edits T e) (f : Point → Point) (within : ∀ x : Point, x.Bounded → (f x).Bounded)
    (told : ∀ x : Point, (f x).supplyLive = x.supplyLive) : d.Edits T (e.mod fun s => s.modPoint p f) :=
  h.mod (.modPoint (hT _ rfl) .refl _ (within _) (told _))

theorem locate (h : d.Edits T e) (v : Nat) (loc : Option SecNo) : d.Edits T (e.locate v p loc) := by
  unfold Ev.locate
  split
  · exact h
  · have located (f : Vehicle → Vehicle) : d.Edits T (e.mod fun s => s.modVehicle v f) :=
      h.mod (.modVehicle (hT _ trivial) .refl _ _)
    exact .ite (fun _ => (located _).vehicleReport _) fun _ => located _

theorem confirmThrowing (h : d.Edits T e) (b : Blade) (m : Motion) : d.Edits T (e.confirmThrowing p b m) := by
  unfold Ev.confirmThrowing
  split
  · refine .serveHead (hT _ trivial) ?_ p
    exact h.point hT _ (fun _ b => ⟨b.occupancy, b.queue⟩) fun _ => rfl
  · exact h.point hT _ (fun _ b => ⟨b.occupancy, b.queue⟩) fun _ => rfl

/-- A refused head leaves the queue. -/
theorem refuseHead (h : d.Edits T e) {q : Request} {rest : List Request} (hq : (e.s.point p).queue = q :: rest)
    (r : RouteReason) : d.Edits T (e.mod fun s => (s.refuse p q.vehicle q.leg r).modPoint p fun x => { x with queue := rest }) :=
  h.mod (.setQueue (Part.queue_le hT) (.refuse (Part.queue_le hT) .refl _ _ _) _ fun b => by
    have := b.queue
    rw [State.point_refuse] at this
    simp only [Point.count, hq, List.length_cons] at this
    omega)

theorem confirmAtRest (h : d.Edits T e) (b : Blade) : d.Edits T (e.confirmAtRest p b) := by
  unfold Ev.confirmAtRest
  refine .ite (fun _ => h) fun _ => serveHead (hT _ trivial) ?_ p
  have placed : d.Edits T (e.mod fun s => s.modPoint p fun x => { x with position := b.pos }) :=
    h.point hT _ (fun _ b => ⟨b.occupancy, b.queue⟩) fun _ => rfl
  split
  · exact .ite (fun _ => placed.refuseHead hT ‹_› _) fun _ => placed
  · exact placed

theorem bladeReport (h : d.Edits T e) (b : Blade) : d.Edits T (e.bladeReport p b) := by
  unfold Ev.bladeReport
  dsimp only
  split
  · exact h
  split
  · split
    · exact h.confirmThrowing hT _ _
    · exact h.confirmAtRest hT _
  · exact h.point hT _ (fun _ b => ⟨b.occupancy, b.queue⟩) fun _ => rfl

theorem clearPassage (h : d.Edits T e) (v : Nat) : d.Edits T (e.clearPassage p v) := by
  unfold Ev.clearPassage
  extract_lets x q passed located
  have passed : d.Edits T passed :=
    h.mod (.modPoint (hT _ rfl) .refl _ (fun b => ⟨b.leave.occupancy, (length_clearQueue_le _ _).trans b.queue⟩) (by simp))
  have located : d.Edits T located := .ite (fun _ => passed) fun _ => passed.locate hT v _
  exact .ite (fun _ => located.serveHead (hT _ trivial) p) fun _ => located

theorem passage (h : d.Edits T e) (r : ContactRole) (v : Nat) : d.Edits T (e.passage p r v) := by
  have counted (f : PointCounters → PointCounters) : d.Edits T (e.mod fun s => s.modPoint p fun x => x.count f) :=
    h.point hT _ (fun _ b => ⟨b.occupancy, b.queue⟩) fun _ => rfl
  unfold Ev.passage
  dsimp only
  split
  · exact (counted _).point hT _ (fun _ b => b.approach) Point.approach_supplyLive
  · exact (counted _).clearPassage hT v

theorem mapQueue (h : d.Edits T e) (f : Request → Request) :
    d.Edits T (e.mod fun s => s.modPoint p fun x => { x with queue := x.queue.map f }) :=
  h.point hT _ (fun _ b => ⟨b.occupancy, by simpa using b.queue⟩) fun _ => rfl

theorem repeatRequest (h : d.Edits T e) (first : Bool) (q : Request) (l : Leg) : d.Edits T (e.repeatRequest p first q l) := by
  unfold Ev.repeatRequest
  dsimp only
  split
  · exact h.mod (.modPoint (hT _ rfl) (.routeTelegram (hT _ trivial) (hT _ trivial) .refl _ _) _
      (fun b => ⟨b.occupancy, by simpa using b.queue⟩) rfl)
  · exact .ite (fun _ => (h.mapQueue hT _).serveHead (hT _ trivial) p) fun _ => h.mapQueue hT _

theorem routeRequest (h : d.Edits T e) (v : Nat) (l : Leg) : d.Edits T (e.routeRequest v p l) := by
  unfold Ev.routeRequest
  extract_lets x
  split
  · exact h.mod (.modSupervisor (hT _ trivial) .refl _)
  split
  · exact h.mod (.refuse (Part.queue_le hT) .refl _ _ _)
  split
  · exact h.mod (.refuse (Part.queue_le hT) .refl _ _ _)
  split
  · exact h.repeatRequest hT _ _ _
  split
  · exact h.mod (.refuse (Part.queue_le hT) .refl _ _ _)
  · have room : (x.queue ++ [(⟨v, l, e.s.partTime, none, ⟨e.s.partTime, e.s.settings.requestLife * 1000⟩⟩ : Request)]).length ≤
        requestPlaces := by
      simp only [List.length_append, List.length_singleton]
      omega
    refine .ite (fun _ => .serveHead (hT _ trivial) ?_ p) fun _ => ?_
    all_goals exact h.mod (.modPoint (hT _ rfl) .refl _ (fun b => ⟨b.occupancy, room⟩) rfl)

theorem requestExpired (h : d.Edits T e) (q : Request) : d.Edits T (e.requestExpired p q) := by
  have expired : d.Edits T (e.mod fun s => (s.refuse p q.vehicle q.leg .expired).modPoint p fun x =>
      { x with queue := x.queue.filter fun r => r.vehicle != q.vehicle }) :=
    h.mod (.modPoint (hT _ rfl) (.refuse (Part.queue_le hT) .refl _ _ _) _
      (fun b => ⟨b.occupancy, (List.length_filter_le _ _).trans b.queue⟩) rfl)
  exact .ite (fun _ => expired.serveHead (hT _ trivial) p) fun _ => expired

theorem lifeExpiry (h : d.Edits T e) (v : Nat) : d.Edits T (e.lifeExpiry p v) := by
  unfold Ev.lifeExpiry
  split
  · exact h
  · exact .ite (fun _ => h.requestExpired hT _) fun _ => h

theorem obstruct (h : d.Edits T e) (v : Nat) : d.Edits T (e.obstruct p v) :=
  .ite (fun _ => h) fun _ => h.mod (.refuseAll (Part.queue_le hT) (.modPoint (hT _ rfl) .refl _ (fun b => ⟨b.occupancy, b.queue⟩) rfl) _)

theorem unobstruct (h : d.Edits T e) (v : Nat) : d.Edits T (e.unobstruct p v) := by
  refine .ite (fun _ => .serveHead (hT _ trivial) ?_ p) fun _ => h
  exact h.point hT _ (fun _ b => ⟨b.occupancy, b.queue⟩) fun _ => rfl

theorem pointSet (h : d.Edits T e) (l : Leg) : d.Edits T (e.pointSet p l).1 :=
  .ite (fun _ => h.mod (.throwPoint (Part.queue_le hT) .refl _ _)) fun _ => h

theorem pointLock (h : d.Edits T e) (l : Leg) : d.Edits T (e.pointLock p l).1 := by
  unfold Ev.pointLock
  dsimp only
  split
  · exact h
  split
  · exact h
  split
  · exact h
  split
  · exact h
  · refine .serveHead (hT _ trivial) ?_ p
    exact h.point hT _ (fun _ b => ⟨b.occupancy, b.queue⟩) fun _ => rfl

theorem pointUnlock (h : d.Edits T e) : d.Edits T (e.pointUnlock p).1 := by
  unfold Ev.pointUnlock
  split
  · exact h
  split
  · exact h
  · refine .serveHead (hT _ trivial) ?_ p
    exact h.point hT _ (fun _ b => ⟨b.occupancy, b.queue⟩) fun _ => rfl

theorem pointClear (h : d.Edits T e) : d.Edits T (e.pointClear p).1 := by
  unfold Ev.pointClear
  split
  · exact h
  · exact (h.point hT _ (fun _ b => b.cleared) Point.cleared_supplyLive).serveHead (hT _ trivial) p

theorem throwFailed (hi : T .incidents) (h : d.Edits T e) : d.Edits T (e.throwFailed p) := by
  unfold Ev.throwFailed
  extract_lets r failed
  have failed : d.Edits T failed := h.point hT _ (fun _ b => ⟨b.occupancy, b.queue⟩) fun _ => rfl
  exact (failed.recordClosed hi _ _ _ _).mod (.refuseAll (Part.queue_le hT) .refl _)

theorem throwExpiry (hi : T .incidents) (h : d.Edits T e) : d.Edits T (e.throwExpiry p) :=
  .ite (fun _ => h.throwFailed hT hi) fun _ => h

theorem takePointPosition (h : d.Edits T e) (body : List Byte) : d.Edits T (e.takePointPosition p body) := by
  unfold Ev.takePointPosition
  split
  · exact h.mod (.modSupervisor (hT _ trivial) .refl _)
  split
  · exact h.mod (.modSupervisor (hT _ trivial) .refl _)
  · have counted (f : PointCounters → PointCounters) : d.Edits T (e.mod fun s => s.modPoint p fun x => x.count f) :=
      h.point hT _ (fun _ b => ⟨b.occupancy, b.queue⟩) fun _ => rfl
    dsimp only
    split
    · exact (counted _).mod (.pointFault (Part.queue_le hT) .refl)
    · exact (counted _).bladeReport hT _

theorem takeContact (h : d.Edits T e) (r : ContactRole) (body : List Byte) : d.Edits T (e.takeContact p r body) := by
  unfold Ev.takeContact
  split
  · exact h.mod (.modSupervisor (hT _ trivial) .refl _)
  split
  · exact .ite (fun _ => h.mod (.modSupervisor (hT _ trivial) .refl _)) fun _ =>
      .ite (fun _ => h.mod (.modSupervisor (hT _ trivial) .refl _)) fun _ => h.passage hT _ _
  · exact h.mod (.modSupervisor (hT _ trivial) .refl _)

end

end Ev.Edits

end Sys2Proof.Machine

namespace Sys2Proof.Machine

open Sys2Proof

/-- What an operation of vehicles and points writes. -/
def Part.OfTraffic : Part → Prop
  | .vehicles | .point _ | .supervisor | .heads | .normal _ => True
  | _ => False

theorem Part.ofTraffic_le_ofBlocks : Part.OfTraffic ≤ Part.OfBlocks := by
  intro k hk
  unfold Part.OfTraffic at hk
  split at hk <;> trivial

theorem Part.ofPoint_le_ofTraffic (p : PointNo) : Part.OfPoint p ≤ Part.OfTraffic := by
  intro k hk
  unfold Part.OfPoint at hk
  split at hk <;> trivial

namespace Ev.Edits

/-! One section at a report of its own breaker, or at a change of the station position -/

section
variable {T : Part → Prop} {d e : Ev} {i : SecNo} (hT : Part.OfSec i ≤ T)
include hT

theorem stationOpened (h : d.Edits T e) : d.Edits T (e.stationOpened i) := by
  unfold Ev.stationOpened
  dsimp only
  split
  · exact closeThenCancel hT (h.mod (.withdraw (hT _ trivial) (.setPending (hT _ rfl)
      (.setSec (hT _ rfl) (.releaseLineIf (hT _ rfl) .refl _) _ _) _) _)) _
  · exact h

theorem stationClosed (h : d.Edits T e) : d.Edits T (e.stationClosed i) :=
  .ite (fun _ => h.mod (.setSec (hT _ rfl) .refl _ _)) fun _ => h

/-- R16: a report whose effect is no breaker failure with backup. -/
theorem judgeOwnReport (h : d.Edits T e) {st : SecState} {r : Report}
    (own : r = .failed → st ≠ .live ∧ st ≠ .tripping) : d.Edits T (e.judgeReport i st r) := by
  have moved (st : State → SecState) (r : SecReason) : d.Edits T (e.mod fun s => s.setSec i (st s) r) :=
    h.mod (.setSec (hT _ rfl) .refl _ _)
  unfold Ev.judgeReport
  cases st with
  | dead =>
    cases r with
    | opened | trippedLocal => exact h
    | closed => exact .ite (fun _ => moved _ _) fun _ => h
    | failed => exact h.breakerLockout hT _
  | closing =>
    cases r with
    | opened => exact h.closeFails hT
    | closed => exact h.confirmClose hT
    | trippedLocal => exact h.localTrip hT
    | failed => exact h.breakerLockout hT _
  | live =>
    cases r with
    | opened => exact (moved _ _).leaveSequence hT _
    | closed => exact h
    | trippedLocal => exact h.localTrip hT
    | failed => exact absurd rfl (own rfl).1
  | opening =>
    cases r with
    | opened | trippedLocal => exact h.confirmOpen hT
    | closed => exact h
    | failed => exact h.breakerLockout hT _
  | tripping =>
    cases r with
    | opened | trippedLocal => exact h.confirmTrip hT
    | closed => exact h
    | failed => exact absurd rfl (own rfl).2
  | waiting | testing =>
    cases r with
    | opened | trippedLocal => exact h
    | closed => exact h.closedInSequence hT
    | failed => exact h.breakerLockout hT _
  | lockedOut =>
    cases r with
    | opened | trippedLocal => exact h
    | closed => exact .ite (fun _ => h) fun _ => h.closeAgainstLock hT
    | failed => exact h.failedLockedOut hT
  | isolated =>
    cases r with
    | opened | trippedLocal => exact h
    | closed => exact h.closeAgainstLock hT
    | failed => exact h.breakerLockout hT _

end

/-- R126: the heads served. -/
theorem serveMarked {T : Part → Prop} {d e : Ev} (hT : ∀ p, Part.OfQueue p ≤ T) (h : d.Edits T e) : d.Edits T e.serveMarked :=
  h.forPoints _ fun _ p k => .ite (fun _ => k.mod (.serve (hT p) .refl)) fun _ => k

/-! Vehicles and points alone -/

section
variable {T : Part → Prop} {d e : Ev} (hT : Part.OfTraffic ≤ T)
include hT

theorem takeRouteRequest (h : d.Edits T e) (body : List Byte) : d.Edits T (e.takeRouteRequest body) := by
  unfold Ev.takeRouteRequest
  split
  · exact h.mod (.modSupervisor (hT _ trivial) .refl _)
  · exact h.routeRequest ((Part.ofPoint_le_ofTraffic _).trans hT) _ _

theorem vehicles (h : d.Edits T e) (f : VehicleTable → VehicleTable) : d.Edits T (e.mod fun s => s.modVehicles f) :=
  h.mod (.modVehicles (hT _ trivial) .refl _)

theorem vehicle (h : d.Edits T e) (n : Nat) (f : Vehicle → Vehicle) : d.Edits T (e.mod fun s => s.modVehicle n f) :=
  h.mod (.modVehicle (hT _ trivial) .refl _ _)

theorem obstructionNotices (h : d.Edits T e) (was v : Vehicle) (admits : Bool) :
    d.Edits T (e.obstructionNotices was v admits) := by
  unfold Ev.obstructionNotices
  dsimp only
  split
  · split
    · exact h
    · exact (h.vehicle hT _ _).obstruct ((Part.ofPoint_le_ofTraffic _).trans hT) _
  · split
    · split
      · exact h
      · exact (h.unobstruct ((Part.ofPoint_le_ofTraffic _).trans hT) _).vehicle hT _ _
    · exact h

theorem tableFull (h : d.Edits T e) (v : Nat) : d.Edits T (e.tableFull v) := by
  unfold Ev.tableFull
  extract_lets t refusals spaced counted
  have counted : d.Edits T counted := h.vehicles hT _
  exact .ite (fun _ => counted.vehicleReport _) fun _ => counted

/-- An entry leaves the table, and the departure is counted. -/
theorem removed (h : d.Edits T e) (n : Nat) (f : VehicleTable → VehicleTable) :
    d.Edits T (e.mod fun s => (s.removeVehicle n).modVehicles f) :=
  h.mod (.modVehicles (hT _ trivial) (.modVehicles (hT _ trivial) .refl _) _)

theorem admissionExpiry (h : d.Edits T e) (n : Nat) : d.Edits T (e.admissionExpiry n) := by
  unfold Ev.admissionExpiry
  split
  · exact h
  · exact .ite (fun _ => h.removed hT _ _) fun _ => h

theorem silenceExpiry (h : d.Edits T e) (n : Nat) : d.Edits T (e.silenceExpiry n) := by
  unfold Ev.silenceExpiry
  split
  · exact h
  split
  · exact h
  split
  · split
    · exact (h.removed hT _ _).vehicleReport _
    · exact h.mod (.modVehicle (hT _ trivial) .refl _ _)
  · exact h

theorem vehicleForget (h : d.Edits T e) (n : Nat) : d.Edits T (e.vehicleForget n).1 := by
  unfold Ev.vehicleForget
  split
  · exact h
  split
  · exact h
  split
  · exact h
  · have gone : d.Edits T (e.mod fun s => s.removeVehicle n) := h.mod (.modVehicles (hT _ trivial) .refl _)
    exact .ite (fun _ => gone.vehicleReport _) fun _ => gone

end

section
variable {T : Part → Prop} {d e : Ev} (hT : Part.OfBlocks ≤ T)
include hT

theorem sec_le (i : SecNo) : Part.OfSec i ≤ T := (Part.ofSec_le_ofBlocks i).trans hT

theorem traffic_le : Part.OfTraffic ≤ T := Part.ofTraffic_le_ofBlocks.trans hT

theorem point_le (p : PointNo) : Part.OfPoint p ≤ T := (Part.ofPoint_le_ofBlocks p).trans hT

/-! Vehicles -/

theorem gateNotice (h : d.Edits T e) (v : Nat) : d.Edits T (e.gateNotice v) :=
  h.forSecs _ fun _ i k => k.reevaluateIf (sec_le hT i) _ .vehicles

theorem lateAttach (h : d.Edits T e) (v : Nat) (f : Option FaultCode) : d.Edits T (e.lateAttach v f) := by
  refine h.forSecs _ fun e i k => List.foldlRecOn (motive := d.Edits T) _ _ k fun e k r _ => ?_
  split
  · exact k
  · split
    · split
      · exact k
      · exact k.attach (sec_le hT i) _ _ _ _
    · exact k

theorem incidentNotice (h : d.Edits T e) (was v : Vehicle) (admits : Bool) : d.Edits T (e.incidentNotice was v admits) := by
  unfold Ev.incidentNotice
  dsimp only
  split
  · exact .ite (fun _ => h.lateAttach hT _ _) fun _ => h
  · split
    · split
      · exact h
      · exact h.lateAttach hT _ _
    · exact h

theorem handOn (h : d.Edits T e) (was v : Vehicle) (admits : Bool) : d.Edits T (e.handOn was v admits) := by
  unfold Ev.handOn
  extract_lets moved faults told obstructed gated
  have told : d.Edits T told := .ite (fun _ => h.vehicleReport _) fun _ => h
  have obstructed : d.Edits T obstructed := told.obstructionNotices (traffic_le hT) _ _ _
  have gated : d.Edits T gated := .ite (fun _ => obstructed.gateNotice hT _) fun _ => obstructed
  exact gated.incidentNotice hT _ _ _

theorem statusInto (h : d.Edits T e) (was : Vehicle) (st : VehicleStatus) (admits : Bool) :
    d.Edits T (e.statusInto was st admits) :=
  (h.mod (.modVehicles (hT _ trivial) (.modVehicles (hT _ trivial) .refl _) _)).handOn hT _ _ _

theorem createVehicle (h : d.Edits T e) (st : VehicleStatus) : d.Edits T (e.createVehicle st) :=
  .ite (fun _ => h.statusInto hT _ _ _) fun _ => h.statusInto hT _ _ _

theorem takeStatus (h : d.Edits T e) (st : VehicleStatus) : d.Edits T (e.takeStatus st) := by
  unfold Ev.takeStatus
  split
  · exact h.vehicles (traffic_le hT) _
  split
  · exact h.statusInto hT _ _ _
  split
  · exact h.createVehicle hT _
  split
  · exact h.tableFull (traffic_le hT) _
  · exact ((h.removed (traffic_le hT) _ _).vehicleReport _).createVehicle hT _

theorem vehicleStatus (h : d.Edits T e) (st : Option VehicleStatus) : d.Edits T (e.vehicleStatus st) := by
  cases st with
  | none => exact h.vehicles (traffic_le hT) _
  | some st => exact h.takeStatus hT st

/-! The station -/

theorem withStation (f : Ev → Ev) (hf : d.Edits T (f e)) : d.Edits T (e.withStation f) :=
  .ite (fun _ => hf) fun _ => hf.forSecs _ fun _ i k => k.reevaluate (sec_le hT i) _

theorem stationPosition (h : d.Edits T e) (p : Position) : d.Edits T (e.stationPosition p) := by
  have placed : d.Edits T (e.mod fun s => s.modStation fun t => { t with position := p }) :=
    h.mod (.modStation (hT _ trivial) .refl _ id)
  refine .ite (fun _ => placed) fun _ => ?_
  cases p with
  | opened => exact placed.forSecs _ fun _ i k => k.stationOpened (sec_le hT i)
  | closed => exact placed.forSecs _ fun _ i k => k.stationClosed (sec_le hT i)
  | unknown => exact placed

theorem stationFails (h : d.Edits T e) : d.Edits T e.stationFails :=
  (h.mod (.setStationPending (hT _ trivial) (.setStation (hT _ trivial) .refl _ _) _)).recordClosed (hT _ trivial) _ _ _ _

theorem stationCloseFails (h : d.Edits T e) : d.Edits T e.stationCloseFails :=
  h.mod (.withdraw (hT _ trivial) (.setStationPending (hT _ trivial) (.setStation (hT _ trivial) .refl _ _) _) _)

theorem stationConfirmed (h : d.Edits T e) : d.Edits T e.stationConfirmed := by
  unfold Ev.stationConfirmed
  exact h.mod (.setStationPending (hT _ trivial) (.setStation (hT _ trivial) (.releaseStationLineIf (hT _ trivial) .refl _) _ _) _)

theorem setStation (h : d.Edits T e) (st : StState) (r : StReason) : d.Edits T (e.mod fun s => s.setStation st r) :=
  h.mod (.setStation (hT _ trivial) .refl _ _)

theorem judgeStationReport (h : d.Edits T e) (st : StState) (r : Report) : d.Edits T (e.judgeStationReport st r) := by
  unfold Ev.judgeStationReport
  split
  case h_9 | h_10 => exact h.stationCloseFails hT
  case h_13 | h_14 => exact h.stationConfirmed hT
  case h_2 | h_7 | h_12 | h_16 => exact h.stationFails hT
  case h_1 | h_5 | h_6 => exact h.setStation hT _ _
  case h_11 => exact h.mod (.setStationPending (hT _ trivial) (.setStation (hT _ trivial) .refl _ _) _)
  all_goals exact h

theorem stationReport (h : d.Edits T e) (r : Report) : d.Edits T (e.stationReport r) := by
  refine withStation hT _ (judgeStationReport hT ?_ _ _)
  cases r with
  | opened | trippedLocal => exact h.stationPosition hT _
  | closed => exact .ite (fun _ => h) fun _ => h.stationPosition hT _
  | failed => exact h

theorem requestBackup (h : d.Edits T e) : d.Edits T e.requestBackup := by
  refine .ite (fun _ => h) fun _ => withStation hT _ ?_
  refine h.mod (f := fun s => _) ?_
  refine .setStation (hT _ trivial) (.setStationPending (hT _ trivial) (.assertStationLine (hT _ trivial) ?_) _) _ _
  split
  · exact .queueOrder (hT _ trivial) .refl _ _
  · exact .refl

theorem stationClose (h : d.Edits T e) : d.Edits T e.stationClose.1 := by
  unfold Ev.stationClose
  dsimp only
  split
  · dsimp only
    refine withStation hT _ ?_
    exact h.mod (.setStation (hT _ trivial) (.setStationPending (hT _ trivial) (.queueOrder (hT _ trivial) .refl _ _) _) _ _)
  · exact h

theorem stationOpen (h : d.Edits T e) (trip : Bool) : d.Edits T (e.stationOpen trip).1 := by
  unfold Ev.stationOpen
  dsimp only
  split
  · dsimp only
    refine withStation hT _ ?_
    refine h.mod (.setStation (hT _ trivial) (.setStationPending (hT _ trivial) ?_ _) _ _)
    split
    · exact .assertStationLine (hT _ trivial) (.queueOrder (hT _ trivial) .refl _ _)
    · exact .queueOrder (hT _ trivial) .refl _ _
  · exact h

theorem stationReset (h : d.Edits T e) : d.Edits T e.stationReset.1 := by
  unfold Ev.stationReset
  split
  · dsimp only
    refine withStation hT _ ?_
    exact h.mod (.releaseStationLine (hT _ trivial) (.setStation (hT _ trivial) .refl _ _))
  · exact h

theorem stationCloseExpiry (h : d.Edits T e) : d.Edits T e.stationCloseExpiry :=
  .ite (fun _ => withStation hT _ (h.stationCloseFails hT)) fun _ => h

theorem stationOpenExpiry (h : d.Edits T e) : d.Edits T e.stationOpenExpiry :=
  .ite (fun _ => withStation hT _ ((h.mod (.setStationPending (hT _ trivial) (.setStation (hT _ trivial)
    (.releaseStationLineIf (hT _ trivial) .refl _) _ _) _)).recordClosed (hT _ trivial) _ _ _ _)) fun _ => h

theorem backupTripExpiry (h : d.Edits T e) : d.Edits T e.backupTripExpiry :=
  .ite (fun _ => withStation hT _ (h.stationFails hT)) fun _ => h

/-! Section breakers and their backup -/

theorem breakerFailure (h : d.Edits T e) (i : SecNo) (c : FailCause) : d.Edits T (e.breakerFailure i c) := by
  unfold Ev.breakerFailure
  extract_lets lined locked
  have lined : d.Edits T lined := .ite (fun _ => h.mod (.assertLine (hT _ trivial) .refl)) fun _ => h
  have locked : d.Edits T locked := lined.breakerLockout (sec_le hT i) c
  exact .ite (fun _ => locked) fun _ => locked.requestBackup hT

theorem judgeReport (h : d.Edits T e) (i : SecNo) (st : SecState) (r : Report) : d.Edits T (e.judgeReport i st r) := by
  by_cases failure : r = .failed ∧ (st = .live ∨ st = .tripping)
  · obtain ⟨rfl, rfl | rfl⟩ := failure
    all_goals
      change d.Edits T (e.breakerFailure i .failedReport)
      exact h.breakerFailure hT i _
  · exact h.judgeOwnReport (sec_le hT i) fun hr => not_or.mp fun hs => failure ⟨hr, hs⟩

theorem breakerReport (h : d.Edits T e) (i : SecNo) (r : Report) : d.Edits T (e.breakerReport i r) := by
  unfold Ev.breakerReport
  extract_lets st placed
  have placed : d.Edits T placed := by
    unfold placed
    split
    · exact h.mod (.setPosition (hT _ trivial) .refl _)
    · exact h
  exact .ite (fun _ => placed.judgeReport hT i st r) fun _ => placed

theorem sectionTripExpiry (h : d.Edits T e) (i : SecNo) : d.Edits T (e.sectionTripExpiry i) :=
  .ite (fun _ => h.breakerFailure hT i _) fun _ => h

theorem breakerState (h : d.Edits T e) (obj : BreakerObj) (body : List Byte) : d.Edits T (e.breakerState obj body) := by
  unfold Ev.breakerState
  split
  · exact h.stationReport hT _
  · exact h
  · exact h.breakerReport hT _ _
  · exact .ite (fun _ => h.mod (.modFeed (hT _ trivial) .refl _)) fun _ => h

theorem takeLineTest (h : d.Edits T e) (obj : BreakerObj) (body : List Byte) : d.Edits T (e.takeLineTest obj body) := by
  unfold Ev.takeLineTest
  split
  · exact .ite (fun _ => h.lineTestResult (sec_le hT _) _) fun _ => h
  · exact h

/-- A delivery to a role, where the role accepts the kind. -/
theorem deliver (h : d.Edits T e) {role : Role} {t : Telegram} {f : Ev} (hf : e.deliver role t = some f) : d.Edits T f := by
  unfold Ev.deliver at hf
  cases role with
  | source r i =>
    dsimp only at hf
    split at hf
    · exact Option.some.inj hf ▸ h.sampleTelegram (sec_le hT i) _ _
    · cases hf
  | breaker obj =>
    dsimp only at hf
    split at hf
    · exact Option.some.inj hf ▸ h.breakerState hT _ _
    split at hf
    · exact Option.some.inj hf ▸ h.takeLineTest hT _ _
    · cases hf
  | motor p =>
    dsimp only at hf
    split at hf
    · exact Option.some.inj hf ▸ h.takePointPosition (point_le hT p) _
    · cases hf
  | contact r p =>
    dsimp only at hf
    split at hf
    · exact Option.some.inj hf ▸ h.takeContact (point_le hT p) _ _
    · cases hf
  | gateway =>
    dsimp only at hf
    split at hf
    · exact Option.some.inj hf ▸ h.vehicleStatus hT _
    split at hf
    · exact Option.some.inj hf ▸ h.takeRouteRequest (traffic_le hT) _
    · cases hf

/-- R91: the window of an incident closes; its section's gate 2 is judged anew. -/
theorem windowClosed (h : d.Edits T e) (n : Nat) : d.Edits T (e.windowClosed n) := by
  unfold Ev.windowClosed
  split
  · exact h
  · refine reportIncident ?_ _ _
    have held (f : Incident → Incident) : d.Edits T (e.mod fun s => s.modRecord n f) :=
      h.mod (.modRecord (hT _ trivial) .refl _ _)
    split
    · exact (held _).reevaluateIf (sec_le hT _) _ _
    · exact held _

theorem windowExpiry (h : d.Edits T e) (n : Nat) : d.Edits T (e.windowExpiry n) :=
  .ite (fun _ => h.windowClosed hT n) fun _ => h

/-! The end of an event -/

/-- R59: the BLIND decisions at the end of an event. -/
theorem blindPass (h : d.Edits T e) : d.Edits T e.blindPass :=
  h.forSecs _ fun _ i k => .ite (fun _ => k.blindDecision (sec_le hT i)) fun _ => k

end

section
variable {T : Part → Prop} {d e : Ev}

/-- R131: the supply of a point is told to it. -/
theorem supplyNotice (hs : ∀ p, T (.supply p)) (hh : T .heads) (h : d.Edits T e) (p : PointNo) :
    d.Edits T (e.supplyNotice p) := by
  unfold Ev.supplyNotice
  dsimp only
  split
  · exact h
  · have told (f : Point → Point) (within : (e.s.point p).Bounded → (f (e.s.point p)).Bounded) :
        d.Edits T (e.mod fun s => s.modPoint p f) := h.mod (State.Edits.refl.edit (hs p) (.supply _ p f within))
    exact .ite (fun _ => (told _ fun b => ⟨b.occupancy, b.queue⟩).serveHead hh p) fun _ =>
      told _ fun b => ⟨b.occupancy, b.queue⟩

theorem supplyNotices (hs : ∀ p, T (.supply p)) (hh : T .heads) (h : d.Edits T e) :
    d.Edits T (e.forPoints Ev.supplyNotice) := h.forPoints _ fun _ p k => k.supplyNotice hs hh p

/-- What the end of an event writes. -/
theorem finish (hT : Part.OfBlocks ≤ T) (hs : ∀ p, T (.supply p)) (h : d.Edits T e) : d.s.Edits T e.finish :=
  List.foldlRecOn (motive := d.s.Edits T) _ _ (State.Edits.pushAll (hT _ trivial)
    (((h.blindPass hT).supplyNotices hs (hT _ trivial)).serveMarked fun p => Part.queue_le (point_le hT p)).state _) fun _ k _ _ => .pushNormal (hT _ trivial) k _

end
end Ev.Edits

end Sys2Proof.Machine

namespace Sys2Proof.Machine

open Sys2Proof

/-! ### What the ports write -/

namespace State.Edits

section
variable {T : Part → Prop} {s t : State} {l : Line} (hT : T (.port l))
include hT

theorem modPort (h : s.Edits T t) (f : Port → Port) (within : (t.port l).Bounded → (f (t.port l)).Bounded)
    (orders : ∀ o ∈ (f (t.port l)).urgent, o ∈ (t.port l).urgent) : s.Edits T (t.modPort l f) :=
  h.edit hT (.port t l f within orders)

/-- A write of a port that leaves its buffer and its queues. -/
theorem modPortState (h : s.Edits T t) (f : Port → Port) (hb : (f (t.port l)).buffer = (t.port l).buffer)
    (hn : (f (t.port l)).normal = (t.port l).normal) (hu : (f (t.port l)).urgent = (t.port l).urgent) :
    s.Edits T (t.modPort l f) :=
  h.modPort hT f (fun b => ⟨hb ▸ b.buffer, hn ▸ b.normal, hu ▸ b.urgent⟩) fun _ ho => hu ▸ ho

theorem modCounters (h : s.Edits T t) (f : LineCounters → LineCounters) : s.Edits T (t.modCounters l f) :=
  h.modPortState hT _ rfl rfl rfl

theorem hearLine (h : s.Edits T t) : s.Edits T (t.hearLine l) := h.modPortState hT _ rfl rfl rfl

theorem sendOffer (h : s.Edits T t) (further : Bool) : s.Edits T (t.sendOffer l further) := by
  unfold State.sendOffer
  split
  · exact h.modPortState hT _ rfl rfl rfl
  · refine h.modPortState hT _ ?_ ?_ ?_ <;> cases further <;> rfl

end

end State.Edits

/-- A change of rate leaves the buffer and the queues. -/
@[simp] theorem Port.setRate_queues (p : Port) (r : Rate) :
    (p.setRate r).buffer = p.buffer ∧ (p.setRate r).normal = p.normal ∧ (p.setRate r).urgent = p.urgent := by
  unfold Port.setRate
  split <;> exact ⟨rfl, rfl, rfl⟩

@[simp] theorem Port.enterNegotiating_queues (p : Port) (now : PartTime) :
    (p.enterNegotiating now).buffer = p.buffer ∧ (p.enterNegotiating now).normal = p.normal ∧
      (p.enterNegotiating now).urgent = p.urgent := p.setRate_queues .r9600

@[simp] theorem Port.becomeAgreed_queues (p : Port) (now : PartTime) :
    (p.becomeAgreed now).buffer = p.buffer ∧ (p.becomeAgreed now).normal = p.normal ∧
      (p.becomeAgreed now).urgent = p.urgent := by
  unfold Port.becomeAgreed
  dsimp only
  split
  · exact ⟨rfl, rfl, rfl⟩
  · exact p.setRate_queues _

/-- R164: the buffer never passes its places. -/
theorem Port.Bounded.store {p : Port} (h : p.Bounded) (r : RxTelegram) : (p.store r).Bounded := by
  unfold Port.store
  split
  · refine ⟨?_, h.normal, h.urgent⟩
    simp only [List.length_append, List.length_singleton]
    omega
  · exact ⟨h.buffer, h.normal, h.urgent⟩

@[simp] theorem Port.store_urgent (p : Port) (r : RxTelegram) : (p.store r).urgent = p.urgent := by
  unfold Port.store
  split <;> rfl

/-- R167: the transmitter only takes from the queues. -/
theorem Port.Bounded.transmit {p : Port} (h : p.Bounded) : p.transmit.Bounded := by
  unfold Port.transmit
  split
  · rename_i o rest hu
    have nodup := h.urgent
    rw [hu, List.map_cons, List.nodup_cons] at nodup
    exact ⟨h.buffer, h.normal, nodup.2⟩
  · rename_i m rest hu hn
    have places := h.normal
    rw [hn, List.length_cons] at places
    exact ⟨h.buffer, by dsimp only; omega, h.urgent⟩
  · exact ⟨h.buffer, h.normal, h.urgent⟩

theorem Port.mem_urgent_of_transmit {p : Port} {o : UrgentOrder} (h : o ∈ p.transmit.urgent) : o ∈ p.urgent := by
  unfold Port.transmit at h
  split at h
  · rename_i q rest hu
    rw [hu]
    exact .tail _ h
  · exact h
  · exact h

namespace State.Edits

section
variable {T : Part → Prop} {s t : State} {l : Line} (hT : T (.port l))
include hT

theorem enterNegotiating (h : s.Edits T t) : s.Edits T (t.enterNegotiating l) := by
  obtain ⟨hb, hn, hu⟩ := (t.port l).enterNegotiating_queues t.partTime
  exact h.modPortState hT _ hb hn hu

theorem enterAcknowledging (h : s.Edits T t) (r : Rate) (ack : Bool) : s.Edits T (t.enterAcknowledging l r ack) := by
  obtain ⟨hb, hn, hu⟩ := (t.port l).setRate_queues .r9600
  refine sendOffer hT ?_ ack
  exact h.modPortState hT _ hb hn hu

theorem ratesChanged (h : s.Edits T t) : s.Edits T (t.ratesChanged l) := by
  unfold State.ratesChanged
  dsimp only
  split
  · exact h.enterNegotiating hT
  · exact h

theorem ackInAcknowledging (h : s.Edits T t) (r : Rate) : s.Edits T (t.ackInAcknowledging l r) := by
  unfold State.ackInAcknowledging
  extract_lets was heard
  have heard : s.Edits T heard := (h.modPortState hT _ rfl rfl rfl).hearLine hT
  split
  · exact heard
  · exact heard.sendOffer hT _

theorem offerTaken (h : s.Edits T t) (ability : Byte) (ack : Option Rate) : s.Edits T (t.offerTaken l ability ack) := by
  unfold State.offerTaken
  extract_lets r
  split
  · exact h.enterAcknowledging hT _ _
  · split
    · exact h.enterAcknowledging hT _ _
    · exact h
  · refine hearLine hT (h.modPortState hT _ ?_ ?_ ?_) <;> split <;> rfl
  · split
    · exact h.ackInAcknowledging hT _
    · exact h.enterNegotiating hT
  · exact (h.hearLine hT).enterAcknowledging hT _ _
  · split
    · exact h.hearLine hT
    · exact h.enterNegotiating hT

theorem takeOffer (h : s.Edits T t) (body : List Byte) : s.Edits T (t.takeOffer l body) := by
  have counted := h.modCounters hT fun c => { c with formats := inc32 c.formats }
  unfold State.takeOffer
  split
  · exact h.offerTaken hT _ _
  · dsimp only
    split
    · exact counted.hearLine hT
    · exact counted

theorem takeValid (h : s.Edits T t) (r : RxTelegram) : s.Edits T (t.takeValid l r) := by
  have stored {u : State} (k : s.Edits T u) : s.Edits T (u.modPort l fun p => p.store r) :=
    k.modPort hT _ (fun b => b.store r) fun _ ho => by simpa using ho
  unfold State.takeValid
  extract_lets p
  split
  · exact stored (h.hearLine hT)
  · split
    · refine h.modPort hT _ (fun b => Port.Bounded.store ?_ r) fun _ ho => by simpa [Port.becomeFixed] using ho
      exact ⟨b.buffer, b.normal, b.urgent⟩
    · exact h.modCounters hT _
  · exact h.modCounters hT _

theorem completeTelegram (h : s.Edits T t) (r : RxTelegram) : s.Edits T (t.completeTelegram l r) := by
  have valid := h.modCounters hT fun c => { c with valid := inc32 c.valid }
  unfold State.completeTelegram
  dsimp only
  split
  · split
    · exact valid.takeOffer hT _
    · exact valid.takeValid hT _
  · exact h.modCounters hT _

theorem receiveByte (h : s.Edits T t) (bs : List Byte) : s.Edits T (t.receiveByte l bs) := by
  unfold State.receiveByte
  split
  · exact h.modPortState hT _ rfl rfl rfl
  split
  · refine completeTelegram hT ?_ _
    exact h.modPortState hT _ rfl rfl rfl
  · exact h.modPortState hT _ rfl rfl rfl

theorem byteArrives (h : s.Edits T t) (b : Byte) : s.Edits T (t.byteArrives l b) := by
  unfold State.byteArrives
  dsimp only
  split
  · exact h
  · exact h
  · split
    · exact h.modPortState hT _ rfl rfl rfl
    · exact h.modPortState hT _ rfl rfl rfl
  · split
    · exact h.modPortState hT _ rfl rfl rfl
    · refine receiveByte hT ?_ _
      exact h.modPortState hT _ rfl rfl rfl
  · split
    · exact h.modPortState hT _ rfl rfl rfl
    · refine h.modPortState hT _ ?_ ?_ ?_ <;> dsimp only <;> split <;> rfl

theorem bytesArrive (h : s.Edits T t) (bs : List Byte) : s.Edits T (t.bytesArrive l bs) :=
  List.foldlRecOn (motive := s.Edits T) _ _ h fun _ k _ _ => k.byteArrives hT _

theorem frameArrives (h : s.Edits T t) (frame : List Byte) : s.Edits T (t.frameArrives l frame) := by
  unfold State.frameArrives
  dsimp only
  split
  · split
    · exact h.bytesArrive hT _
    · split
      · exact h.bytesArrive hT _
      · exact h
    · exact h
    · exact h
    · exact h
  · exact h

theorem idleGap (h : s.Edits T t) (n : Nat) : s.Edits T (t.idleGap l n) := by
  unfold State.idleGap
  split
  · exact h
  · refine h.modPortState hT _ ?_ ?_ ?_ <;> dsimp only <;> split <;> try rfl
    all_goals split <;> rfl

theorem babbleCutoff (h : s.Edits T t) : s.Edits T (t.babbleCutoff l) := by
  refine h.modPortState hT _ ?_ ?_ ?_ <;> split <;> rfl

theorem transmitTelegram (h : s.Edits T t) : s.Edits T (t.transmitTelegram l) := by
  refine h.modPort hT _ (fun b => ?_) fun o ho => ?_
  · split
    · exact b.transmit
    · exact b
  · split at ho
    · exact Port.mem_urgent_of_transmit ho
    · exact ho

theorem nextOffer (h : s.Edits T t) : s.Edits T (t.nextOffer l) := by
  unfold State.nextOffer
  extract_lets p free
  have free : s.Edits T free := h.modPortState hT _ rfl rfl rfl
  split
  · refine sendOffer hT ?_ _
    exact free.modPortState hT _ rfl rfl rfl
  split
  · refine sendOffer hT ?_ _
    exact free.modPortState hT _ rfl rfl rfl
  · exact free

theorem transmitterFree (h : s.Edits T t) : s.Edits T (t.transmitterFree l) := by
  unfold State.transmitterFree
  dsimp only
  split
  · exact h
  · exact h.nextOffer hT

theorem ackOfferEnd (h : s.Edits T t) : s.Edits T (t.ackOfferEnd l) := by
  obtain ⟨hb, hn, hu⟩ := (t.port l).becomeAgreed_queues t.partTime
  unfold State.ackOfferEnd
  dsimp only
  split
  · split
    · exact h.modPortState hT _ hb hn hu
    · exact h.nextOffer hT
  · exact h

theorem offerExpiry (h : s.Edits T t) : s.Edits T (t.offerExpiry l) := by
  unfold State.offerExpiry
  split
  · refine sendOffer hT ?_ _
    exact h.modPortState hT _ rfl rfl rfl
  · exact h

theorem partnerExpiry (h : s.Edits T t) : s.Edits T (t.partnerExpiry l) := by
  unfold State.partnerExpiry
  split
  · exact h.modPortState hT _ rfl rfl rfl
  · exact h

theorem quietExpiry (h : s.Edits T t) : s.Edits T (t.quietExpiry l) := by
  unfold State.quietExpiry
  split
  · exact h.enterNegotiating hT
  · exact h

end

end State.Edits

end Sys2Proof.Machine

namespace Sys2Proof.Machine

open Sys2Proof

/-! ### What a command carries out -/

/-- A step of the command unit or the traffic path about an order: its counters, the queues, its answer, a time mark. -/
inductive Ev.Admin (d : Ev) : Ev → Prop
  | counters (l : Line) (f : LineCounters → LineCounters) : Admin d (d.mod fun s => s.modCounters l f)
  | taken (l : Line) (rest : List RxTelegram) (fewer : rest.length ≤ (d.s.port l).buffer.length) :
      Admin d (d.mod fun s => s.modPort l fun p => { p with buffer := rest })
  | bind (k : Fin 64) (f : BindCount → BindCount) : Admin d (d.mod fun s => s.modBind k f)
  | commands (f : CommandCounters → CommandCounters) : Admin d (d.mod fun s => s.modCommands f)
  | push (l : Line) (m : Telegram) : Admin d (d.mod fun s => s.pushNormal l m)
  | answer (l : Line) (m : Telegram) : Admin d (d.answer l m)
  | timeMark (l : Line) (src : Byte) (day : Option Nat) : Admin d (d.mod fun s => s.timeMark l src day)

/-- What is carried out for a telegram or a request, while no configuration is being loaded. -/
inductive Ev.Order (d : Ev) : Ev → Prop
  | sample (i : SecNo) (r : SourceRole) (x : Option (List (Tick × Int))) : Order d (d.sampleTelegram i r x)
  | breakerState (obj : BreakerObj) (body : List Byte) : Order d (d.breakerState obj body)
  | lineTest (obj : BreakerObj) (body : List Byte) : Order d (d.takeLineTest obj body)
  | pointPosition (p : PointNo) (body : List Byte) : Order d (d.takePointPosition p body)
  | contact (p : PointNo) (r : ContactRole) (body : List Byte) : Order d (d.takeContact p r body)
  | vehicleStatus (st : Option VehicleStatus) : Order d (d.vehicleStatus st)
  | routeRequest (body : List Byte) : Order d (d.takeRouteRequest body)
  | sectionClose (i : SecNo) : Order d (d.sectionClose i).1
  | sectionOpen (i : SecNo) (trip : Bool) : Order d (d.sectionOpen i trip).1
  | sectionReset (i : SecNo) : Order d (d.sectionReset i).1
  | sectionIsolate (i : SecNo) (force : Bool) : Order d (d.sectionIsolate i force).1
  | sectionRelease (i : SecNo) : Order d (d.sectionRelease i).1
  | stationClose : Order d d.stationClose.1
  | stationOpen (trip : Bool) : Order d (d.stationOpen trip).1
  | stationReset : Order d d.stationReset.1
  | pointSet (p : PointNo) (l : Leg) : Order d (d.pointSet p l).1
  | pointLock (p : PointNo) (l : Leg) : Order d (d.pointLock p l).1
  | pointUnlock (p : PointNo) : Order d (d.pointUnlock p).1
  | pointClear (p : PointNo) : Order d (d.pointClear p).1
  | vehicleForget (n : Nat) : Order d (d.vehicleForget n).1
  | writeEntry (table index : Byte) (entry : List Byte) : Order d (d.writeEntry table index entry).1
  | entryActive (table index value : Byte) : Order d (d.entryActive table index value).1
  | setMode (b : Byte) : Order d (d.setMode b).1
  | clearIncidents : Order d (d.mod State.clearIncidents)
  | storeRead (r : Req) (code : Byte) (a n : Nat) : Order d (d.storeRead r code a n).1
  | storeWrite (r : Req) (code : Byte) (a : Nat) (bs : List Byte) : Order d (d.storeWrite r code a bs).1
  | storeSave (r : Req) (code : Byte) : Order d (d.storeSave r code).1
  | storeReload (r : Req) (code : Byte) : Order d (d.storeReload r code).1

/-- A request that writes every block. -/
inductive Ev.Sweep (d : Ev) : Ev → Prop
  | clearCounters : Sweep d (d.mod State.clearCounters)
  | restartCold (tag : Byte) : Sweep d (Ev.start (d.s.coldStart .coldRequest (some tag)))
  | restartWarm (tag : Byte) : Sweep d (d.warmRestart tag)

/-- An expiry that is taken, or the memory's answer. -/
inductive Ev.Expiry (d : Ev) : Ev → Prop
  | answered : Expiry d d.transactionAnswered
  | transaction : Expiry d d.transactionExpiry
  | closeConfirmTime (i : SecNo) : Expiry d (d.closeConfirmTimeExpiry i)
  | sectionOpen (i : SecNo) : Expiry d (d.sectionOpenExpiry i)
  | sectionTrip (i : SecNo) : Expiry d (d.sectionTripExpiry i)
  | stationClose : Expiry d d.stationCloseExpiry
  | stationOpen : Expiry d d.stationOpenExpiry
  | backupTrip : Expiry d d.backupTripExpiry
  | stale (i : SecNo) (r : SourceRole) : Expiry d (d.staleExpiry i r)
  | blind (i : SecNo) : Expiry d (d.blindExpiry i)
  | deadTime (i : SecNo) : Expiry d (d.deadTimeExpiry i)
  | hold (i : SecNo) : Expiry d (d.holdExpiry i)
  | lineTest (i : SecNo) : Expiry d (d.lineTestExpiry i)
  | reclaim (i : SecNo) : Expiry d (d.reclaimExpiry i)
  | window (n : Nat) : Expiry d (d.windowExpiry n)
  | admission (v : Nat) : Expiry d (d.admissionExpiry v)
  | silence (v : Nat) : Expiry d (d.silenceExpiry v)
  | life (p : PointNo) (v : Nat) : Expiry d (d.lifeExpiry p v)
  | throwing (p : PointNo) : Expiry d (d.throwExpiry p)
  | controlSilence : Expiry d d.silenceTaken

/-- What comes before an order: steps about it, and the control station being heard (R175). -/
def Ev.Begun (d e : Ev) : Prop := Relation.ReflTransGen (fun e f => e.Admin f ∨ f = e.controlHeard) d e

/-- An order is carried out, or none: steps about it come before it and after it. -/
def Ev.Ran (d e : Ev) : Prop :=
  ∃ f g, d.Begun f ∧ (g = f ∨ f.s.loading = false ∧ (f.Order g ∨ f.Sweep g)) ∧ Relation.ReflTransGen Ev.Admin g e

namespace Ev.Begun

variable {d e : Ev}

theorem refl : d.Begun d := Relation.ReflTransGen.refl

theorem admin (h : d.Begun e) {f : Ev} (a : e.Admin f) : d.Begun f := h.tail (.inl a)

theorem controlHeard (h : d.Begun e) : d.Begun e.controlHeard := h.tail (.inr rfl)

/-- Where no order is carried out. -/
theorem ran (h : d.Begun e) : d.Ran e := ⟨e, e, h, .inl rfl, .refl⟩

theorem order (h : d.Begun e) (hl : e.s.loading = false) {f : Ev} (o : e.Order f) : d.Ran f := ⟨e, f, h, .inr ⟨hl, .inl o⟩, .refl⟩

theorem sweep (h : d.Begun e) (hl : e.s.loading = false) {f : Ev} (o : e.Sweep f) : d.Ran f := ⟨e, f, h, .inr ⟨hl, .inr o⟩, .refl⟩

end Ev.Begun

namespace Ev.Ran

variable {d e : Ev}

theorem admin (h : d.Ran e) {f : Ev} (a : e.Admin f) : d.Ran f := by
  obtain ⟨g, k, hb, ho, ha⟩ := h
  exact ⟨g, k, hb, ho, ha.tail a⟩

theorem answer (h : d.Ran e) (l : Line) (m : Telegram) : d.Ran (e.answer l m) := h.admin (.answer l m)

end Ev.Ran

/-! ### Requests -/

namespace Ev.Begun

variable {d e : Ev}

/-- R183, R184: a COMMAND is counted, carried out and answered, or answered alone. -/
theorem command (h : d.Begun e) (r : Req) (code : Byte) {f : Ev → Ev × Result}
    (hf : ∀ e, d.Begun e → e.s.loading = false → d.Ran (f e).1) : d.Ran (e.command r code f) := by
  unfold Ev.command
  extract_lets own
  split
  · exact h.ran.answer _ _
  split
  · exact (hf _ (h.admin (.commands _)) (Bool.eq_false_of_not_eq_true ‹_›)).answer _ _
  · exact ((h.admin (.commands _)).ran).answer _ _

theorem request (h : d.Begun e) (r : Req) (code : Byte) {f : Ev → Ev × Option Answer}
    (hf : ∀ e, d.Begun e → e.s.loading = false → d.Ran (f e).1) : d.Ran (e.request r code f) := by
  unfold Ev.request
  extract_lets own
  split
  · exact h.ran.answer _ _
  split
  · have ran := hf _ (h.admin (.commands fun c => { c with requests := inc16 c.requests })) (Bool.eq_false_of_not_eq_true ‹_›)
    generalize f (e.mod fun s => s.modCommands fun c => { c with requests := inc16 c.requests }) = x at ran ⊢
    obtain ⟨g, _ | a⟩ := x
    · exact ran
    · exact ran.answer _ _
  · exact ((h.admin (.commands _)).ran).answer _ _

/-- R184: a section argument out of range carries nothing out. -/
theorem onSection (h : d.Begun e) (n : Byte) {f : Ev → SecNo → Ev × Result} (hf : ∀ i, d.Ran (f e i).1) :
    d.Ran (e.onSection n f).1 := by
  unfold Ev.onSection
  split
  · exact h.ran
  · exact hf _

theorem onPoint (h : d.Begun e) (n : Byte) {f : Ev → PointNo → Ev × Result} (hf : ∀ p, d.Ran (f e p).1) :
    d.Ran (e.onPoint n f).1 := by
  unfold Ev.onPoint
  split
  · exact h.ran
  · exact hf _

/-! The commands -/

theorem cmdSectionClose (h : d.Begun e) (r : Req) (n : Byte) : d.Ran (e.cmdSectionClose r n) :=
  h.command _ _ fun _ k hl => k.onSection _ fun i => k.order hl (.sectionClose i)

theorem cmdSectionOpen (h : d.Begun e) (r : Req) (n kind : Byte) : d.Ran (e.cmdSectionOpen r n kind) := by
  refine h.command _ _ fun _ k hl => k.onSection _ fun i => ?_
  split
  · exact k.ran
  · exact k.order hl (.sectionOpen i _)

theorem cmdSectionReset (h : d.Begun e) (r : Req) (n : Byte) : d.Ran (e.cmdSectionReset r n) :=
  h.command _ _ fun _ k hl => k.onSection _ fun i => k.order hl (.sectionReset i)

theorem cmdSectionIsolate (h : d.Begun e) (r : Req) (n force : Byte) : d.Ran (e.cmdSectionIsolate r n force) := by
  refine h.command _ _ fun _ k hl => k.onSection _ fun i => ?_
  split
  · exact k.ran
  · exact k.order hl (.sectionIsolate i _)

theorem cmdSectionRelease (h : d.Begun e) (r : Req) (n : Byte) : d.Ran (e.cmdSectionRelease r n) :=
  h.command _ _ fun _ k hl => k.onSection _ fun i => k.order hl (.sectionRelease i)

theorem cmdStationClose (h : d.Begun e) (r : Req) : d.Ran (e.cmdStationClose r) :=
  h.command _ _ fun _ k hl => k.order hl .stationClose

theorem cmdStationOpen (h : d.Begun e) (r : Req) (kind : Byte) : d.Ran (e.cmdStationOpen r kind) := by
  refine h.command _ _ fun _ k hl => ?_
  split
  · exact k.ran
  · exact k.order hl (.stationOpen _)

theorem cmdStationReset (h : d.Begun e) (r : Req) : d.Ran (e.cmdStationReset r) :=
  h.command _ _ fun _ k hl => k.order hl .stationReset

theorem cmdPointSet (h : d.Begun e) (r : Req) (n leg : Byte) : d.Ran (e.cmdPointSet r n leg) := by
  refine h.command _ _ fun _ k hl => k.onPoint _ fun p => ?_
  split
  · exact k.ran
  · exact k.order hl (.pointSet p _)

theorem cmdPointLock (h : d.Begun e) (r : Req) (n leg : Byte) : d.Ran (e.cmdPointLock r n leg) := by
  refine h.command _ _ fun _ k hl => k.onPoint _ fun p => ?_
  split
  · exact k.ran
  · exact k.order hl (.pointLock p _)

theorem cmdPointUnlock (h : d.Begun e) (r : Req) (n : Byte) : d.Ran (e.cmdPointUnlock r n) :=
  h.command _ _ fun _ k hl => k.onPoint _ fun p => k.order hl (.pointUnlock p)

theorem cmdPointClear (h : d.Begun e) (r : Req) (n : Byte) : d.Ran (e.cmdPointClear r n) :=
  h.command _ _ fun _ k hl => k.onPoint _ fun p => k.order hl (.pointClear p)

theorem cmdVehicleForget (h : d.Begun e) (r : Req) (v : BitVec 16) : d.Ran (e.cmdVehicleForget r v) :=
  h.command _ _ fun _ k hl => k.order hl (.vehicleForget _)

theorem badCommand (h : d.Begun e) (r : Req) (code : Byte) : d.Ran (e.badCommand r code) :=
  h.command _ _ fun _ k _ => (k.admin (.commands _)).ran

/-! The management requests -/

/-- A request that reads. -/
theorem reads (h : d.Begun e) (r : Req) (code : Byte) (f : State → Answer) : d.Ran (e.request r code (Ev.reads f)) :=
  h.request _ _ fun _ k _ => k.ran

theorem badRequest (h : d.Begun e) (r : Req) (code : Byte) : d.Ran (e.badRequest r code) :=
  h.request _ _ fun _ k _ => (k.admin (.commands _)).ran

theorem reqWriteEntry (h : d.Begun e) (r : Req) (table index : Byte) (entry : List Byte) :
    d.Ran (e.reqWriteEntry r table index entry) := by
  refine h.request _ _ fun _ k hl => ?_
  split
  · exact k.order hl (.writeEntry table index entry)
  · exact (k.admin (.commands _)).ran

theorem reqEntryActive (h : d.Begun e) (r : Req) (table index value : Byte) : d.Ran (e.reqEntryActive r table index value) :=
  h.request _ _ fun _ k hl => k.order hl (.entryActive table index value)

theorem reqSetMode (h : d.Begun e) (r : Req) (mode : Byte) : d.Ran (e.reqSetMode r mode) :=
  h.request _ _ fun _ k hl => k.order hl (.setMode mode)

theorem reqClearCounters (h : d.Begun e) (r : Req) : d.Ran (e.reqClearCounters r) :=
  h.request _ _ fun _ k hl => k.sweep hl .clearCounters

theorem reqClearIncidents (h : d.Begun e) (r : Req) : d.Ran (e.reqClearIncidents r) :=
  h.request _ _ fun _ k hl => k.order hl .clearIncidents

theorem reqStoreRead (h : d.Begun e) (r : Req) (address : BitVec 16) (count : Byte) : d.Ran (e.reqStoreRead r address count) :=
  h.request _ _ fun _ k hl => k.order hl (.storeRead r _ _ _)

theorem reqStoreWrite (h : d.Begun e) (r : Req) (address : BitVec 16) (bytes : List Byte) :
    d.Ran (e.reqStoreWrite r address bytes) := h.request _ _ fun _ k hl => k.order hl (.storeWrite r _ _ _)

theorem reqStoreSave (h : d.Begun e) (r : Req) : d.Ran (e.reqStoreSave r) :=
  h.request _ _ fun _ k hl => k.order hl (.storeSave r _)

theorem reqStoreReload (h : d.Begun e) (r : Req) : d.Ran (e.reqStoreReload r) :=
  h.request _ _ fun _ k hl => k.order hl (.storeReload r _)

theorem reqRestartCold (h : d.Begun e) (r : Req) : d.Ran (e.reqRestartCold r) := by
  refine h.request _ _ fun _ k hl => ?_
  split
  · exact k.ran
  · exact k.sweep hl (.restartCold r.tag)

theorem reqRestartWarm (h : d.Begun e) (r : Req) : d.Ran (e.reqRestartWarm r) := by
  refine h.request _ _ fun _ k hl => ?_
  split
  · exact k.ran
  · exact k.sweep hl (.restartWarm r.tag)

/-! Requests as telegrams bring them -/

theorem commandBody (h : d.Begun e) (r : Req) (code : Byte) (args : List Byte) : d.Ran (e.commandBody r code args) := by
  unfold Ev.commandBody
  generalize code.toNat = c
  match c, args with
  | 1, [n] => exact h.cmdSectionClose r n
  | 2, [n, k] => exact h.cmdSectionOpen r n k
  | 3, [n] => exact h.cmdSectionReset r n
  | 4, [n, f] => exact h.cmdSectionIsolate r n f
  | 5, [n] => exact h.cmdSectionRelease r n
  | 6, [] => exact h.cmdStationClose r
  | 7, [k] => exact h.cmdStationOpen r k
  | 8, [] => exact h.cmdStationReset r
  | 9, [n, l] => exact h.cmdPointSet r n l
  | 10, [n, l] => exact h.cmdPointLock r n l
  | 11, [n] => exact h.cmdPointUnlock r n
  | 12, [n] => exact h.cmdPointClear r n
  | 13, [v, w] => exact h.cmdVehicleForget r (v ++ w)
  | 0, _ | 1, [] | 1, _ :: _ :: _ | 2, [] | 2, [_] | 2, _ :: _ :: _ :: _ | 3, [] | 3, _ :: _ :: _ | 4, [] | 4, [_]
    | 4, _ :: _ :: _ :: _ | 5, [] | 5, _ :: _ :: _ | 6, _ :: _ | 7, [] | 7, _ :: _ :: _ | 8, _ :: _ | 9, [] | 9, [_]
    | 9, _ :: _ :: _ :: _ | 10, [] | 10, [_] | 10, _ :: _ :: _ :: _ | 11, [] | 11, _ :: _ :: _ | 12, []
    | 12, _ :: _ :: _ | 13, [] | 13, [_] | 13, _ :: _ :: _ :: _ | _ + 14, _ =>
    exact h.badCommand r code

theorem storeBody (h : d.Begun e) (r : Req) (code : Byte) (args : List Byte) : d.Ran (e.storeBody r code args) := by
  unfold Ev.storeBody
  generalize code.toNat = c
  match c, args with
  | 10, [v, w, n] => exact h.reqStoreRead r (v ++ w) n
  | 11, v :: w :: n :: bytes =>
    change d.Ran (if bytes.length = n.toNat then e.reqStoreWrite r (v ++ w) bytes else e.badRequest r code)
    split
    · exact h.reqStoreWrite r (v ++ w) bytes
    · exact h.badRequest r code
  | 12, [] => exact h.reqStoreSave r
  | 13, [] => exact h.reqStoreReload r
  | 14, [k] =>
    change d.Ran (match k.toNat with
      | 0 => e.reqRestartCold r
      | 1 => e.reqRestartWarm r
      | _ => e.request r code fun e => (e, some (.badArgument, [])))
    split
    · exact h.reqRestartCold r
    · exact h.reqRestartWarm r
    · exact h.request r code fun _ k _ => k.ran
  | 0, _ | 1, _ | 2, _ | 3, _ | 4, _ | 5, _ | 6, _ | 7, _ | 8, _ | 9, _ | 10, [] | 10, [_] | 10, [_, _]
    | 10, _ :: _ :: _ :: _ :: _ | 11, [] | 11, [_] | 11, [_, _] | 12, _ :: _ | 13, _ :: _ | 14, [] | 14, _ :: _ :: _
    | _ + 15, _ =>
    exact h.badRequest r code

theorem requestBody (h : d.Begun e) (r : Req) (code : Byte) (args : List Byte) : d.Ran (e.requestBody r code args) := by
  unfold Ev.requestBody
  generalize code.toNat = c
  match c, args with
  | 1, [k, v, w, p] => exact h.reads r _ _
  | 2, [t, i] => exact h.reads r _ _
  | 3, t :: i :: entry => exact h.reqWriteEntry r t i entry
  | 4, [t, i, v] => exact h.reqEntryActive r t i v
  | 5, [m] => exact h.reqSetMode r m
  | 6, [g] => exact h.reads r _ _
  | 7, [] => exact h.reqClearCounters r
  | 8, [x, v, w, p, k] => exact h.reads r _ _
  | 9, [] => exact h.reqClearIncidents r
  | 0, _ | 1, [] | 1, [_] | 1, [_, _] | 1, [_, _, _] | 1, _ :: _ :: _ :: _ :: _ :: _ | 2, [] | 2, [_]
    | 2, _ :: _ :: _ :: _ | 3, [] | 3, [_] | 4, [] | 4, [_] | 4, [_, _] | 4, _ :: _ :: _ :: _ :: _ | 5, [] | 5, _ :: _ :: _ | 6, []
    | 6, _ :: _ :: _ | 7, _ :: _ | 8, [] | 8, [_] | 8, [_, _] | 8, [_, _, _] | 8, [_, _, _, _]
    | 8, _ :: _ :: _ :: _ :: _ :: _ :: _ | 9, _ :: _ | _ + 10, _ =>
    exact h.storeBody r code _

theorem takeCommand (h : d.Begun e) (l : Line) (src : Byte) (body : List Byte) : d.Ran (e.takeCommand l src body) := by
  unfold Ev.takeCommand
  dsimp only
  split
  · exact h.badCommand _ _
  · exact h.commandBody _ _ _

theorem takeRequest (h : d.Begun e) (l : Line) (src : Byte) (body : List Byte) : d.Ran (e.takeRequest l src body) := by
  unfold Ev.takeRequest
  dsimp only
  split
  · exact h.badRequest _ _
  · exact h.requestBody _ _ _

/-! The traffic path -/

@[simp] theorem loading_modMode (s : State) (f : ModeRecord → ModeRecord) : (s.modMode f).loading = s.loading := rfl

theorem loading_timeMark (s : State) (l : Line) (src : Byte) (day : Option Nat) :
    (s.timeMark l src day).loading = s.loading := by
  unfold State.timeMark
  split
  · split
    · split <;> rfl
    · rfl
  · rfl

theorem loading_controlHeard (e : Ev) : e.controlHeard.s.loading = e.s.loading := by
  unfold Ev.controlHeard
  extract_lets heard
  split
  · rename_i hm
    unfold Ev.changeMode
    rw [hm]
    rfl
  · rfl

theorem deliver (h : d.Begun e) (hl : e.s.loading = false) {role : Role} {t : Telegram} {f : Ev}
    (hf : e.deliver role t = some f) : d.Ran f := by
  unfold Ev.deliver at hf
  cases role with
  | source r i =>
    dsimp only at hf
    split at hf
    · exact Option.some.inj hf ▸ h.order hl (.sample i r _)
    · cases hf
  | breaker obj =>
    dsimp only at hf
    split at hf
    · exact Option.some.inj hf ▸ h.order hl (.breakerState obj _)
    split at hf
    · exact Option.some.inj hf ▸ h.order hl (.lineTest obj _)
    · cases hf
  | motor p =>
    dsimp only at hf
    split at hf
    · exact Option.some.inj hf ▸ h.order hl (.pointPosition p _)
    · cases hf
  | contact r p =>
    dsimp only at hf
    split at hf
    · exact Option.some.inj hf ▸ h.order hl (.contact p r _)
    · cases hf
  | gateway =>
    dsimp only at hf
    split at hf
    · exact Option.some.inj hf ▸ h.order hl (.vehicleStatus _)
    split at hf
    · exact Option.some.inj hf ▸ h.order hl (.routeRequest _)
    · cases hf

theorem deliverBy (h : d.Begun e) (hl : e.s.loading = false) (k : Fin 64) (t : Telegram) : d.Ran (e.deliverBy k t) := by
  unfold Ev.deliverBy
  split
  · rename_i f hf
    obtain ⟨role, _, hr⟩ := Option.bind_eq_some_iff.mp hf
    exact h.deliver hl hr
  · exact (h.admin (.bind _ _)).ran

/-- R143: a telegram is forwarded and counted. -/
theorem forward (h : d.Begun e) (l : Line) (m : Telegram) : d.Begun (e.mod fun s => s.forward l m) :=
  (h.admin (.push (Line.other l) m)).admin (.counters l fun c => { c with forwarded := inc32 c.forwarded })

/-- No step about an order ends or begins a load. -/
theorem loading_forward (e : Ev) (l : Line) (m : Telegram) : (e.mod fun s => s.forward l m).s.loading = e.s.loading := by
  simp [State.loading, State.forward, State.countForwarded, State.modCounters]

theorem carryOut (h : d.Begun e) (hl : e.s.loading = false) (q : Equivalent) : d.Ran (e.carryOut q).1 := by
  unfold Ev.carryOut
  split
  · exact h.order hl (.sectionClose _)
  · exact h.order hl (.sectionOpen _ _)
  · exact h.order hl .stationClose
  · exact h.order hl (.stationOpen _)
  · exact h.order hl (.pointSet _ _)
  · exact h.ran

theorem convert (h : d.Begun e) (hl : e.s.loading = false) (q : Equivalent) (t : Telegram) : d.Ran (e.convert q t) := by
  have ran : d.Ran (if q.bad t then (e, Result.badArgument) else e.carryOut q).1 := by
    split
    · exact h.ran
    · exact h.carryOut hl q
  exact (ran.admin (.counters .control _)).answer _ _

theorem advise (h : d.Begun e) (k : Fin 64) (q : Equivalent) (t : Telegram) : d.Ran (e.advise k q t) := by
  unfold Ev.advise
  extract_lets r forwarded
  have forwarded : d.Begun forwarded := h.forward .control _
  split
  · exact forwarded.ran.answer _ _
  · exact forwarded.ran

theorem supervise (h : d.Begun e) (hl : e.s.loading = false) (k : Fin 64) (l : Line) (t : Telegram) :
    d.Ran (e.supervise k l t) := by
  unfold Ev.supervise
  split
  · split
    · exact h.advise k _ t
    · exact h.convert hl _ t
  · exact (h.deliverBy hl k t).admin (.counters l _)

theorem dispose (h : d.Begun e) (hl : e.s.loading = false) (k : Fin 64) (l : Line) (t : Telegram) :
    d.Ran (e.dispose k l t) := by
  unfold Ev.dispose
  extract_lets b
  split
  · exact (h.forward l _).ran
  · exact (h.deliverBy hl k t).admin (.counters l _)
  · exact (h.forward l _).deliverBy ((loading_forward e l _).trans hl) k t
  · exact h.supervise hl k l t
  · exact (h.admin (.counters l _)).ran

theorem classify (h : d.Begun e) (hl : e.s.loading = false) (l : Line) (t : Telegram) : d.Ran (e.classify l t) := by
  unfold Ev.classify
  split
  · exact (h.admin (.bind _ _)).dispose hl _ l t
  · split
    · exact (h.forward l t).ran
    · exact (h.admin (.counters l _)).ran

theorem ownAddress (h : d.Begun e) (l : Line) (t : Telegram) : d.Ran (e.ownAddress l t) := by
  have consumed := h.admin (.counters l fun c => { c with consumed := inc32 c.consumed })
  unfold Ev.ownAddress
  split
  · exact consumed.takeCommand l _ _
  split
  · exact consumed.takeRequest l _ _
  split
  · exact (consumed.admin (.timeMark l _ _)).ran
  · exact (h.admin (.counters l _)).ran

/-- R152: nothing is carried out while loading. -/
theorem passThrough (h : d.Begun e) (l : Line) (t : Telegram) : d.Ran (e.passThrough l t) := by
  unfold Ev.passThrough
  split
  · split
    · exact (h.admin (.counters l _)).ran.answer _ _
    split
    · exact (h.admin (.counters l _)).ran.answer _ _
    · exact (h.admin (.counters l _)).ran
  · exact (h.forward l t).ran

theorem handle (h : d.Begun e) (l : Line) (t : Telegram) : d.Ran (e.handle l t) := by
  unfold Ev.handle
  split
  · exact h.passThrough l t
  · rename_i hl
    extract_lets heard
    have begun : d.Begun heard ∧ heard.s.loading = false := by
      unfold heard
      split
      · exact ⟨h.controlHeard, by rw [loading_controlHeard]; exact Bool.eq_false_of_not_eq_true hl⟩
      · exact ⟨h, Bool.eq_false_of_not_eq_true hl⟩
    obtain ⟨h, hl⟩ := begun
    split
    · exact h.ownAddress l t
    split
    · exact (h.admin (.timeMark l _ _)).classify ((loading_timeMark _ _ _ _).trans hl) l t
    · exact h.classify hl l t

end Ev.Begun

end Sys2Proof.Machine

namespace Sys2Proof.Machine

open Sys2Proof

/-! ### Steps -/

/-- What a port event writes. -/
def Part.OfPort (l : Line) : Part → Prop := (· = .port l)

/-- What a command does to the state. -/
inductive State.Stepped (s : State) : State → Prop
  | stays : Stepped s s
  | port (l : Line) {t : State} (h : s.Edits (Part.OfPort l) t) : Stepped s t
  | ran {e : Ev} (h : (Ev.start s).Ran e) : Stepped s e.finish
  | expired {e : Ev} (h : (Ev.start s).Expiry e) : Stepped s e.finish
  | dayRollover : Stepped s s.dayRollover
  | supplyReturns (cause : RestartCause) : Stepped s (s.supplyReturns cause)
  | supplyFails : Stepped s s.supplyFails
  | assertReset : Stepped s s.assertReset
  | releaseReset : Stepped s s.releaseReset

namespace State.Stepped

variable {s t : State}

/-- A meaning that acts while the part is not held in reset. -/
theorem of_running {f : State → State} (h : s.running f = .next t) (hf : s.Stepped (f s)) : s.Stepped t := by
  unfold State.running at h
  split at h
  · cases h
    exact .stays
  · cases h
    exact hf

theorem of_event {f : Ev → Ev} (h : s.event f = .next t) (hf : (Ev.start s).Ran (f (Ev.start s))) : s.Stepped t :=
  of_running h (.ran hf)

theorem of_expiry {f : Ev → Ev} (h : s.event f = .next t) (hf : (Ev.start s).Expiry (f (Ev.start s))) : s.Stepped t :=
  of_running h (.expired hf)

/-- R152: a delivery, which none is while loading. -/
theorem of_delivery {f : Ev → Ev} (h : s.delivery f = .next t)
    (hf : s.loading = false → (Ev.start s).Ran (f (Ev.start s))) :
    s.Stepped t := by
  refine of_running h ?_
  split
  · exact .stays
  · exact .ran (hf (Bool.eq_false_of_not_eq_true ‹_›))

/-- A delivery to a block. -/
theorem of_order {f : Ev → Ev} (h : s.delivery f = .next t) (hf : (Ev.start s).Order (f (Ev.start s))) : s.Stepped t :=
  of_delivery h fun hl => Ev.Begun.refl.order hl hf

theorem takeTelegram (l : Line) : s.Stepped (s.takeTelegram l) := by
  unfold State.takeTelegram
  split
  · exact .stays
  · rename_i r rest hb
    refine .ran (Ev.Begun.handle (Ev.Begun.refl.admin (.taken l rest ?_)) l r.tg)
    change rest.length ≤ (s.port l).buffer.length
    rw [hb]
    exact Nat.le_succ _

/-- What each command does. -/
theorem of_exec (c : Instr) (h : exec c s = .next t) : s.Stepped t := by
  have begun := Ev.Begun.refl (d := Ev.start s)
  have own (l : Line) : Part.OfPort l (.port l) := rfl
  cases c with
  | powerOn => cases h; exact .supplyReturns .powerOn
  | supplyDip => cases h; exact .supplyReturns .supplyDip
  | supplyFailure => cases h; exact .supplyFails
  | resetLineAsserted => cases h; exact .assertReset
  | resetLineReleased => cases h; exact .releaseReset
  | dayTimeRollover => exact of_running (f := State.dayRollover) h .dayRollover
  | telegramReceived l frame =>
    exact of_running (f := (State.frameArrives · l frame)) h (.port l (State.Edits.refl.frameArrives (own l) _))
  | linkOffer l dst src body =>
    exact of_running (f := (State.frameArrives · l (Telegram.frame ⟨dst, src, kLinkOffer, body⟩))) h
      (.port l (State.Edits.refl.frameArrives (own l) _))
  | idleGap l n => exact of_running (f := (State.idleGap · l n)) h (.port l (State.Edits.refl.idleGap (own l) n))
  | babbleCutoff l => exact of_running (f := (State.babbleCutoff · l)) h (.port l (State.Edits.refl.babbleCutoff (own l)))
  | transmitTelegram l =>
    exact of_running (f := (State.transmitTelegram · l)) h (.port l (State.Edits.refl.transmitTelegram (own l)))
  | ackOfferEnd l => exact of_running (f := (State.ackOfferEnd · l)) h (.port l (State.Edits.refl.ackOfferEnd (own l)))
  | offerExpiry l => exact of_running (f := (State.offerExpiry · l)) h (.port l (State.Edits.refl.offerExpiry (own l)))
  | partnerExpiry l => exact of_running (f := (State.partnerExpiry · l)) h (.port l (State.Edits.refl.partnerExpiry (own l)))
  | quietExpiry l => exact of_running (f := (State.quietExpiry · l)) h (.port l (State.Edits.refl.quietExpiry (own l)))
  | byteArrives l b => exact of_running (f := (State.byteArrives · l b)) h (.port l (State.Edits.refl.byteArrives (own l) b))
  | transmitterFree l =>
    exact of_running (f := (State.transmitterFree · l)) h (.port l (State.Edits.refl.transmitterFree (own l)))
  | takeTelegram l => exact of_running (f := (State.takeTelegram · l)) h (takeTelegram l)
  | sample i r body => exact of_order (f := (Ev.sampleTelegram · i r _)) h (.sample i r _)
  | breakerState obj body => exact of_order (f := (Ev.breakerState · obj body)) h (.breakerState obj body)
  | lineTestResult obj body => exact of_order (f := (Ev.takeLineTest · obj body)) h (.lineTest obj body)
  | pointPosition p body => exact of_order (f := (Ev.takePointPosition · p body)) h (.pointPosition p body)
  | contact p r body => exact of_order (f := (Ev.takeContact · p r body)) h (.contact p r body)
  | vehicleStatus body => exact of_order (f := (Ev.vehicleStatus · _)) h (.vehicleStatus _)
  | routeRequest body => exact of_order (f := (Ev.takeRouteRequest · body)) h (.routeRequest body)
  | timeMark l src body =>
    exact of_delivery (f := fun e => e.mod fun s => s.timeMark l src (dayTimeOf body)) h fun _ =>
      (begun.admin (.timeMark l src _)).ran
  | supervisedOrder k tg =>
    refine of_delivery (f := fun e =>
      if e.s.deciding .control tg = some k ∧ (supervisedBy e.s.tables.binding[k] .control tg).isSome = true then
        e.supervise k .control tg
      else e) h fun hl => ?_
    split
    · exact begun.supervise hl k .control tg
    · exact begun.ran
  | sectionClose r n => exact of_event (f := (Ev.cmdSectionClose · r n)) h (begun.cmdSectionClose r n)
  | sectionOpen r n kind => exact of_event (f := (Ev.cmdSectionOpen · r n kind)) h (begun.cmdSectionOpen r n kind)
  | sectionReset r n => exact of_event (f := (Ev.cmdSectionReset · r n)) h (begun.cmdSectionReset r n)
  | sectionIsolate r n force =>
    exact of_event (f := (Ev.cmdSectionIsolate · r n force)) h (begun.cmdSectionIsolate r n force)
  | sectionRelease r n => exact of_event (f := (Ev.cmdSectionRelease · r n)) h (begun.cmdSectionRelease r n)
  | stationClose r => exact of_event (f := (Ev.cmdStationClose · r)) h (begun.cmdStationClose r)
  | stationOpen r kind => exact of_event (f := (Ev.cmdStationOpen · r kind)) h (begun.cmdStationOpen r kind)
  | stationReset r => exact of_event (f := (Ev.cmdStationReset · r)) h (begun.cmdStationReset r)
  | pointSet r p leg => exact of_event (f := (Ev.cmdPointSet · r p leg)) h (begun.cmdPointSet r p leg)
  | pointLock r p leg => exact of_event (f := (Ev.cmdPointLock · r p leg)) h (begun.cmdPointLock r p leg)
  | pointUnlock r p => exact of_event (f := (Ev.cmdPointUnlock · r p)) h (begun.cmdPointUnlock r p)
  | pointClear r p => exact of_event (f := (Ev.cmdPointClear · r p)) h (begun.cmdPointClear r p)
  | vehicleForget r v => exact of_event (f := (Ev.cmdVehicleForget · r v)) h (begun.cmdVehicleForget r v)
  | readState r kind number part => exact of_event (f := (Ev.reqReadState · r kind number part)) h (begun.reads r _ _)
  | readEntry r table index => exact of_event (f := (Ev.reqReadEntry · r table index)) h (begun.reads r _ _)
  | readCounters r group => exact of_event (f := (Ev.reqReadCounters · r group)) h (begun.reads r _ _)
  | readIncident r selector number part k =>
    exact of_event (f := (Ev.reqReadIncident · r selector number part k)) h (begun.reads r _ _)
  | writeEntry r table index entry =>
    exact of_event (f := (Ev.reqWriteEntry · r table index entry)) h (begun.reqWriteEntry r table index entry)
  | entryActive r table index value =>
    exact of_event (f := (Ev.reqEntryActive · r table index value)) h (begun.reqEntryActive r table index value)
  | setMode r mode => exact of_event (f := (Ev.reqSetMode · r mode)) h (begun.reqSetMode r mode)
  | clearCounters r => exact of_event (f := (Ev.reqClearCounters · r)) h (begun.reqClearCounters r)
  | clearIncidents r => exact of_event (f := (Ev.reqClearIncidents · r)) h (begun.reqClearIncidents r)
  | storeRead r address count =>
    exact of_event (f := (Ev.reqStoreRead · r address count)) h (begun.reqStoreRead r address count)
  | storeWrite r address bytes =>
    exact of_event (f := (Ev.reqStoreWrite · r address bytes)) h (begun.reqStoreWrite r address bytes)
  | storeSave r => exact of_event (f := (Ev.reqStoreSave · r)) h (begun.reqStoreSave r)
  | storeReload r => exact of_event (f := (Ev.reqStoreReload · r)) h (begun.reqStoreReload r)
  | restartCold r => exact of_event (f := (Ev.reqRestartCold · r)) h (begun.reqRestartCold r)
  | restartWarm r => exact of_event (f := (Ev.reqRestartWarm · r)) h (begun.reqRestartWarm r)
  | storeTransactionAnswer => exact of_expiry (f := Ev.transactionAnswered) h .answered
  | transactionExpiry => exact of_expiry (f := Ev.transactionExpiry) h .transaction
  | closeConfirmTimeExpiry i => exact of_expiry (f := (Ev.closeConfirmTimeExpiry · i)) h (.closeConfirmTime i)
  | sectionOpenExpiry i => exact of_expiry (f := (Ev.sectionOpenExpiry · i)) h (.sectionOpen i)
  | sectionTripExpiry i => exact of_expiry (f := (Ev.sectionTripExpiry · i)) h (.sectionTrip i)
  | stationCloseExpiry => exact of_expiry (f := Ev.stationCloseExpiry) h .stationClose
  | stationOpenExpiry => exact of_expiry (f := Ev.stationOpenExpiry) h .stationOpen
  | backupTripExpiry => exact of_expiry (f := Ev.backupTripExpiry) h .backupTrip
  | staleExpiry i r => exact of_expiry (f := (Ev.staleExpiry · i r)) h (.stale i r)
  | blindExpiry i => exact of_expiry (f := (Ev.blindExpiry · i)) h (.blind i)
  | deadTimeExpiry i => exact of_expiry (f := (Ev.deadTimeExpiry · i)) h (.deadTime i)
  | holdExpiry i => exact of_expiry (f := (Ev.holdExpiry · i)) h (.hold i)
  | lineTestExpiry i => exact of_expiry (f := (Ev.lineTestExpiry · i)) h (.lineTest i)
  | reclaimExpiry i => exact of_expiry (f := (Ev.reclaimExpiry · i)) h (.reclaim i)
  | windowExpiry n => exact of_expiry (f := (Ev.windowExpiry · n)) h (.window n)
  | admissionExpiry v => exact of_expiry (f := (Ev.admissionExpiry · v)) h (.admission v)
  | silenceExpiry v => exact of_expiry (f := (Ev.silenceExpiry · v)) h (.silence v)
  | lifeExpiry p v => exact of_expiry (f := (Ev.lifeExpiry · p v)) h (.life p v)
  | throwExpiry p => exact of_expiry (f := (Ev.throwExpiry · p)) h (.throwing p)
  | controlSilenceExpiry => exact of_expiry (f := Ev.silenceTaken) h .controlSilence

end State.Stepped

end Sys2Proof.Machine

namespace Sys2Proof.Machine

open Sys2Proof

/-- Everything but a change of mode into OBSERVE and the writes of many parts. -/
def Part.All : Part → Prop
  | .observe | .whole => False
  | _ => True

/-- Everything that is no section's, not the station's and not in the tables. -/
def Part.Aside : Part → Prop
  | .sec _ | .station | .tables | .observe | .whole => False
  | _ => True

theorem Part.aside_le_all : Part.Aside ≤ Part.All := by
  intro k hk
  cases k <;> trivial

theorem Part.ofTraffic_le_aside : Part.OfTraffic ≤ Part.Aside := by
  intro k hk
  unfold Part.OfTraffic at hk
  split at hk <;> trivial

theorem Part.ofPoint_le_aside (p : PointNo) : Part.OfPoint p ≤ Part.Aside :=
  (Part.ofPoint_le_ofTraffic p).trans Part.ofTraffic_le_aside

theorem Part.ofBlocks_le_all : Part.OfBlocks ≤ Part.All := by
  intro k hk
  cases k <;> trivial

namespace State.Edits

section
variable {T : Part → Prop} {s t : State}

theorem modStore (hT : T .store) (h : s.Edits T t) (f : StoreRecord → StoreRecord)
    (load : ∀ got, (f t.store).op = some (.load got) → t.loading = true) : s.Edits T (t.modStore f) :=
  h.edit hT (.store t f load)

/-- A write of the store record that leaves the operation. -/
theorem modStoreSame (hT : T .store) (h : s.Edits T t) (f : StoreRecord → StoreRecord) (same : (f t.store).op = t.store.op) :
    s.Edits T (t.modStore f) :=
  h.modStore hT f fun got hg => by rw [same] at hg; simp [State.loading, hg]

theorem modMode (hT : T .mode) (h : s.Edits T t) (f : ModeRecord → ModeRecord)
    (leaves : (f t.modeRec).mode = .observe → t.mode = .observe) : s.Edits T (t.modMode f) := h.edit hT (.mode t f leaves)

theorem modCommands (hT : T .commands) (h : s.Edits T t) (f : CommandCounters → CommandCounters) :
    s.Edits T (t.modCommands f) := h.edit hT (.commands t f)

theorem setTables (hT : T .tables) (h : s.Edits T t) (x : Tables) : s.Edits T { t with tables := x } := h.edit hT (.tables t x)

theorem setBindCounts (hT : T .bind) (h : s.Edits T t) (v : Vector BindCount 64) : s.Edits T { t with bindCounts := v } :=
  h.edit hT (.bind t v)

theorem activatePoint {p : PointNo} (hT : T (.supply p)) (h : s.Edits T t) : s.Edits T (t.activatePoint p) :=
  h.edit hT (.supply t p _ fun _ => ⟨Nat.zero_le _, Nat.zero_le _⟩)

theorem startReports (hT : ∀ l, T (.normal l)) (h : s.Edits T t) : s.Edits T t.startReports := by
  unfold State.startReports
  dsimp only
  split
  · exact h.pushNormal (hT _) _
  · exact (h.pushNormal (hT _) _).pushNormal (hT _) _

theorem commit (hT : T .memory) (h : s.Edits T t) (a : Nat) (bs : List Byte) : s.Edits T (t.commit a bs) :=
  h.edit hT (.memory t _ _ fun hw => Memory.wf_writeRun _ _ hw)

theorem cutTransaction (hT : T .memory) (h : s.Edits T t) : s.Edits T t.cutTransaction := by
  unfold State.cutTransaction
  split
  · exact h.edit hT (.memory t _ _ fun hw => Memory.wf_writeSome _ _ _ _ hw)
  · exact h

theorem endOperation (hT : T .store) (h : s.Edits T t) : s.Edits T t.endOperation := h.modStore hT _ nofun

theorem begin (hT : T .store) (h : s.Edits T t) (x : Transfer) : s.Edits T (t.begin x) := h.modStoreSame hT _ rfl

theorem timeMark (hT : T .mode) (h : s.Edits T t) (l : Line) (src : Byte) (day : Option Nat) :
    s.Edits T (t.timeMark l src day) := by
  unfold State.timeMark
  split
  · split
    · split
      · exact h.modMode hT _ id
      · exact h.modMode hT _ id
    · exact h.modMode hT _ id
  · exact h

theorem dayRollover (hT : T .mode) (h : s.Edits T t) : s.Edits T t.dayRollover := by
  unfold State.dayRollover
  split
  · exact h
  · split
    · exact h.modMode hT _ id
    · exact h

theorem hold (hm : T .memory) (hs : T .store) (hw : T .whole) (h : s.Edits T t) : s.Edits T t.hold :=
  ((h.cutTransaction hm).endOperation hs).edit hw (.releaseAllLines _)

theorem pins (hw : T .whole) (h : s.Edits T t) (supply line : Bool) :
    s.Edits T { t with supplyUp := supply, resetLine := line } := h.edit hw (.pins t supply line)

theorem coldStart (hw : T .whole) (h : s.Edits T t) (cause : RestartCause) (tag : Option Byte) :
    s.Edits T (t.coldStart cause tag) := h.edit hw (.coldStart t cause tag)

end
end State.Edits

namespace Ev.Edits

theorem answerRequester {T : Part → Prop} {d e : Ev} (h : d.Edits T e) (q : Option Requester) (r : Result) (data : List Byte) :
    d.Edits T (e.answerRequester q r data) := by
  unfold Ev.answerRequester
  split
  · exact h
  · exact h.answer _ _

theorem sectionReplaced {T : Part → Prop} {d e : Ev} {i : SecNo} (hT : Part.OfSec i ≤ T) (h : d.Edits T e) (old : Tables) :
    d.Edits T (e.sectionReplaced old i) := by
  unfold Ev.sectionReplaced
  split
  · exact h.reloadSection hT _
  · exact h.deactivateSection hT
  · exact (h.mod (.activateSection (hT _ rfl) .refl)).derive hT
  · exact h

/-! What reaches no section, not the station and no table -/

section
variable {T : Part → Prop} {d e : Ev} (hT : Part.Aside ≤ T)
include hT

theorem refuseAll (h : d.Edits T e) (p : PointNo) (r : RouteReason) : d.Edits T (e.mod fun s => s.refuseAll p r) :=
  h.mod (.refuseAll (Part.queue_le ((Part.ofPoint_le_aside p).trans hT)) .refl r)

theorem endRequest (h : d.Edits T e) (r : Result) (data : List Byte) : d.Edits T (e.endRequest r data) :=
  (h.mod (.endOperation (hT _ trivial) .refl)).answerRequester _ _ _

theorem ratesChanged (h : d.Edits T e) : d.Edits T (e.mod fun s => (s.ratesChanged .field).ratesChanged .control) :=
  h.mod (.ratesChanged (hT _ trivial) (.ratesChanged (hT _ trivial) .refl))

theorem activatePoint (h : d.Edits T e) (p : PointNo) : d.Edits T (e.mod fun s => s.activatePoint p) :=
  h.mod (.activatePoint (hT _ trivial) .refl)

/-- R118: a point leaves service. -/
theorem dropPoint (h : d.Edits T e) (p : PointNo) : d.Edits T (e.mod fun s => s.dropPoint p) := by
  refine h.mod (State.Edits.edit (k := .supply p) ?_ (hT _ trivial) (.supply _ p _ fun _ => ?_))
  · exact .refuseAll (Part.queue_le ((Part.ofPoint_le_aside p).trans hT)) .refl .outOfService
  · exact ⟨Nat.zero_le _, Nat.zero_le _⟩

theorem pointReplaced (h : d.Edits T e) (old : Tables) (p : PointNo) : d.Edits T (e.pointReplaced old p) := by
  unfold Ev.pointReplaced
  split
  · exact h.dropPoint hT p
  · exact h.activatePoint hT p
  · exact h

theorem writeAnswered (h : d.Edits T e) : d.Edits T e.writeAnswered := by
  unfold Ev.writeAnswered
  split
  · exact h.mod (.begin (hT _ trivial) (.modStore (hT _ trivial) .refl _ fun _ => by nofun) _)
  · exact h.endRequest hT _ _

/-- R191: a request is taken as an operation that is no load. -/
theorem takeOperation (h : d.Edits T e) {op : StoreOp} (hop : ∀ got, op ≠ .load got) (r : Req) (code : Byte) (t : Transfer) :
    d.Edits T (e.mod fun s => s.takeOperation op r code t) :=
  h.mod (.begin (hT _ trivial) (.modStore (hT _ trivial) .refl _ fun got x => absurd (Option.some.inj x) (hop got)) _)

theorem storeRead (h : d.Edits T e) (r : Req) (code : Byte) (a n : Nat) : d.Edits T (e.storeRead r code a n).1 := by
  unfold Ev.storeRead
  split
  · exact h
  split
  · exact h
  · exact h.takeOperation hT (fun _ => by nofun) _ _ _

theorem storeWrite (h : d.Edits T e) (r : Req) (code : Byte) (a : Nat) (bs : List Byte) :
    d.Edits T (e.storeWrite r code a bs).1 := by
  unfold Ev.storeWrite
  split
  · exact h
  split
  · exact h
  · exact h.takeOperation hT (fun _ => by nofun) _ _ _

theorem storeSave (h : d.Edits T e) (r : Req) (code : Byte) : d.Edits T (e.storeSave r code).1 := by
  unfold Ev.storeSave
  split
  · exact h
  split
  · exact h
  · exact h.takeOperation hT (fun _ => by nofun) _ _ _

theorem storeReload (h : d.Edits T e) (r : Req) (code : Byte) : d.Edits T (e.storeReload r code).1 := by
  unfold Ev.storeReload
  split
  · exact h
  split
  · exact h
  · exact h.takeOperation hT (fun _ => by nofun) _ _ _

end

section
variable {T : Part → Prop} {d e : Ev} (hT : Part.All ≤ T)
include hT

theorem aside_le : Part.Aside ≤ T := Part.aside_le_all.trans hT

theorem blocks_le : Part.OfBlocks ≤ T := Part.ofBlocks_le_all.trans hT

/-! Modes -/

theorem modeEffects (h : d.Edits T e) (was m : Mode) : d.Edits T (e.modeEffects was m) := by
  have hB := blocks_le hT
  have acted (m : Mode) : d.Edits T (e.forSecs fun e i => e.modeActsOn m i) :=
    h.forSecs _ fun _ i k => k.modeActsOn (sec_le hB i) m
  unfold Ev.modeEffects
  split
  · exact h.forSecs _ fun _ i k => k.derive (sec_le hB i)
  · exact acted _
  · exact (acted _).forPoints _ fun _ p k => k.refuseAll (aside_le hT) p _
  · exact (acted _).forPoints _ fun _ p k => k.refuseAll (aside_le hT) p _
  · exact h

/-- R176: only a change into OBSERVE writes it. -/
theorem changeMode (h : d.Edits T e) (m : Mode) (hm : m = .observe → T .observe) (c : ChangeCause) :
    d.Edits T (e.changeMode m c) := by
  refine modeEffects hT (h.mod ?_) _ _
  by_cases ho : m = .observe
  · exact State.Edits.refl.edit (hm ho) (.observe _ _)
  · exact .modMode (hT _ trivial) .refl _ fun x => absurd x ho

theorem enterAutonomous (h : d.Edits T e) : d.Edits T e.enterAutonomous := by
  refine changeMode hT (h.mod ?_) .autonomous nofun _
  exact .modMode (hT _ trivial) .refl _ id

theorem controlHeard (h : d.Edits T e) : d.Edits T e.controlHeard := by
  have heard : d.Edits T (e.mod fun s => s.startSilence.modMode fun r => { r with silent := false }) :=
    h.mod (.modMode (hT _ trivial) (.modMode (hT _ trivial) .refl _ id) _ id)
  exact .ite (fun _ => heard.changeMode hT .active nofun _) fun _ => heard

theorem silenceTaken (h : d.Edits T e) : d.Edits T e.silenceTaken := by
  have silent : d.Edits T (e.mod fun s => s.modMode fun r => { r with silence := none, silent := true }) :=
    h.mod (.modMode (hT _ trivial) .refl _ id)
  exact .ite (fun _ => .ite (fun _ => silent.enterAutonomous hT) fun _ => silent) fun _ => h

theorem setMode (h : d.Edits T e) (ho : T .observe ∨ e.s.mode = .observe) (b : Byte) : d.Edits T (e.setMode b).1 := by
  unfold Ev.setMode
  split
  · exact .ite (fun _ => h) fun hm => h.changeMode hT .observe (fun _ => ho.resolve_right hm) _
  · split
    · exact h
    split
    · exact h
    · have active : d.Edits T (e.changeMode .active .setMode) := h.changeMode hT .active nofun _
      exact .ite (fun _ => active.enterAutonomous hT) fun _ => active
  · exact h

/-! The store -/

theorem startMode (h : d.Edits T e) : d.Edits T e.startMode := by
  have started : d.Edits T (e.mod fun s => s.startSilence.modMode fun r =>
      { r with silent := false, lastChange := (.start, s.partTime) }) :=
    h.mod (.modMode (hT _ trivial) (.modMode (hT _ trivial) .refl _ id) _ id)
  exact .ite (fun _ => started.changeMode hT .active nofun _) fun _ => started

theorem loadEnd (h : d.Edits T e) (status : StoreStatus) (t : Option Tables) : d.Edits T (e.loadEnd status t) := by
  unfold Ev.loadEnd
  extract_lets ended secs points
  have ended : d.Edits T ended :=
    h.mod (.setTables (hT _ trivial) (.modStoreSame (hT _ trivial) (.endOperation (hT _ trivial) .refl) _ rfl) _)
  have secs : d.Edits T secs := ended.forSecs _ fun _ i k => .ite (fun _ => k.mod (.startBlind (hT _ trivial) .refl)) fun _ => k
  have points : d.Edits T points := secs.forPoints _ fun _ p k => .ite (fun _ => k.activatePoint (aside_le hT) p) fun _ => k
  exact ((points.startMode hT).ratesChanged (aside_le hT)).mod (.startReports (fun _ => hT _ trivial) .refl)

theorem replaceTables (h : d.Edits T e) (t : Tables) : d.Edits T (e.replaceTables t) := by
  unfold Ev.replaceTables
  extract_lets old replaced secs points
  have replaced : d.Edits T replaced := h.mod (.setBindCounts (t := { e.s with tables := t }) (hT _ trivial) (.setTables (hT _ trivial) .refl t) _)
  have secs : d.Edits T secs := replaced.forSecs _ fun _ i k => k.sectionReplaced (sec_le (blocks_le hT) i) _
  have points : d.Edits T points := secs.forPoints _ fun _ p k => k.pointReplaced (aside_le hT) _ p
  exact points.ratesChanged (aside_le hT)

theorem reloadEnd (h : d.Edits T e) (status : StoreStatus) (t : Option Tables) : d.Edits T (e.reloadEnd status t) := by
  unfold Ev.reloadEnd
  dsimp only
  split
  · exact h.endRequest (aside_le hT) _ _
  · have ended : d.Edits T (e.mod fun s => s.modStore fun r => { r with status := status }) :=
      h.mod (.modStoreSame (hT _ trivial) .refl _ rfl)
    split
    · exact (ended.replaceTables hT _).endRequest (aside_le hT) _ _
    · exact ended.endRequest (aside_le hT) _ _

theorem imageGoesOn (h : d.Edits T e) (got : List Byte) {op : List Byte → StoreOp}
    {stop : Ev → StoreStatus → Option Tables → Ev} (hop : ∀ x, op got = .load x → e.s.loading = true)
    (hstop : ∀ st t, d.Edits T (stop e st t)) : d.Edits T (e.imageGoesOn got op stop) := by
  unfold Ev.imageGoesOn
  split
  · refine h.mod (.begin (hT _ trivial) (.modStore (hT _ trivial) .refl _ fun x hx => ?_) _)
    exact hop x (Option.some.inj hx)
  · exact hstop _ _

theorem readAnswered (h : d.Edits T e) (bs : List Byte) : d.Edits T (e.readAnswered bs) := by
  unfold Ev.readAnswered
  split
  · rename_i got hop
    exact h.imageGoesOn hT _ (fun _ _ => by simp [State.loading, hop]) fun _ _ => h.loadEnd hT _ _
  · exact h.imageGoesOn hT _ (fun _ => by nofun) fun _ _ => h.reloadEnd hT _ _
  · exact h.endRequest (aside_le hT) _ _

theorem transactionAnswered (h : d.Edits T e) : d.Edits T e.transactionAnswered := by
  unfold Ev.transactionAnswered
  split
  · exact h
  · exact (h.mod (.modStoreSame (hT _ trivial) .refl _ rfl)).readAnswered hT _
  · exact (h.mod (.modStoreSame (hT _ trivial) (.commit (hT _ trivial) .refl _ _) _ rfl)).writeAnswered (aside_le hT)

theorem transactionExpiry (h : d.Edits T e) : d.Edits T e.transactionExpiry := by
  have cut : d.Edits T (e.mod fun s => s.cutTransaction.modStore fun r => { r with trans := none }) :=
    h.mod (.modStoreSame (hT _ trivial) (.cutTransaction (hT _ trivial) .refl) _ rfl)
  refine .ite (fun _ => ?_) fun _ => h
  unfold Ev.timedOut
  dsimp only
  split
  · exact cut.loadEnd hT _ _
  · exact cut.reloadEnd hT _ _
  · exact cut.endRequest (aside_le hT) _ _

/-! Table entries -/

theorem writeEntry (h : d.Edits T e) (table index : Byte) (entry : List Byte) :
    d.Edits T (e.writeEntry table index entry).1 := by
  unfold Ev.writeEntry
  split
  · exact h
  split
  · exact h
  split
  · exact h
  split
  · exact h
  split
  · exact h
  · dsimp only
    refine h.mod ?_
    have put (x : Tables) : e.s.Edits T { e.s with tables := x } := .setTables (hT _ trivial) .refl x
    split
    · unfold State.clearBinding
      split
      · exact (put _).setBindCounts (hT _ trivial) _
      · exact put _
    · exact ((put _).ratesChanged (hT _ trivial)).ratesChanged (hT _ trivial)
    · exact put _

theorem sectionActive (h : d.Edits T e) (i : SecNo) (on : Bool) : d.Edits T (e.sectionActive i on).1 := by
  have hi := sec_le (blocks_le hT) i
  have flagged (on : Bool) : e.s.Edits T (e.s.setSectionActive i on) := .setTables (hT _ trivial) .refl _
  have activated : d.Edits T (e.mod fun s => (s.setSectionActive i true).activateSection i) :=
    h.mod ((flagged true).activateSection (hT _ trivial))
  have deactivated : d.Edits T (e.mod fun s => s.setSectionActive i false) := h.mod (flagged false)
  unfold Ev.sectionActive
  split
  · exact h
  split
  · exact activated.derive hi
  split
  · exact deactivated.deactivateSection hi
  · exact h

theorem pointActive (h : d.Edits T e) (p : PointNo) (on : Bool) : d.Edits T (e.pointActive p on).1 := by
  have flagged (on : Bool) : d.Edits T (e.mod fun s => s.setPointActive p on) :=
    h.mod (.setTables (hT _ trivial) .refl _)
  unfold Ev.pointActive
  split
  · exact h
  split
  · exact (flagged true).activatePoint (aside_le hT) p
  split
  · exact h
  · exact (flagged false).dropPoint (aside_le hT) p

theorem stationActive (h : d.Edits T e) (on : Bool) : d.Edits T (e.stationActive on).1 := by
  have flagged : d.Edits T (e.mod fun s => s.setStationActive on) := h.mod (.setTables (hT _ trivial) .refl _)
  unfold Ev.stationActive
  split
  · exact flagged
  · exact h

theorem entryActive (h : d.Edits T e) (table index value : Byte) : d.Edits T (e.entryActive table index value).1 := by
  have bound (k : Nat) (on : Bool) : d.Edits T (e.mod fun s => s.setBindingActive k on) := by
    refine h.mod ?_
    unfold State.setBindingActive
    split
    · exact .setTables (hT _ trivial) .refl _
    · exact .refl
  unfold Ev.entryActive
  split
  · split
    · exact h
    · split
      · exact bound _ _
      · split
        · exact h.stationActive hT _
        · split
          · exact h.sectionActive hT _ _
          · exact h
      · split
        · exact h.pointActive hT _ _
        · exact h
      all_goals exact h
  · exact h

/-! Restarts -/

/-- R180: what follows once the records of the other blocks stand at their warm-restart values. -/
theorem warmEffects (e : Ev) (tag : Byte) : (e.mod fun s => s.warmRecords tag).Edits T (e.warmRestart tag) := by
  have hB := blocks_le hT
  unfold Ev.warmRestart
  extract_lets records secs points
  have records : (e.mod fun s => s.warmRecords tag).Edits T records :=
    Ev.Edits.refl.mod (f := fun s => s.startReports) (.startReports (fun _ => hT _ trivial) .refl)
  have secs : (e.mod fun s => s.warmRecords tag).Edits T secs := records.forSecs _ fun _ i k => k.warmSection (sec_le hB i)
  have points : (e.mod fun s => s.warmRecords tag).Edits T points := by
    refine secs.forPoints _ fun e p k => k.mod ?_
    exact .modPoint (hT _ trivial) (.refuseAll (Part.queue_le (point_le hB p)) .refl _) _ (fun b => ⟨b.occupancy, b.queue⟩) rfl
  exact points.mod (.modSupervisor (hT _ trivial) .refl fun _ => coldSupervisor)

theorem warmRestart (hw : T .whole) (h : d.Edits T e) (tag : Byte) : d.Edits T (e.warmRestart tag) :=
  (h.mod (State.Edits.refl.edit hw (.warmRecords _ tag))).trans (warmEffects hT e tag)

end
end Ev.Edits

end Sys2Proof.Machine

namespace Sys2Proof.Machine

open Sys2Proof

/-! ### What a command writes -/

namespace Ev.Edits

section
variable {T : Part → Prop} {d e f : Ev} (hT : Part.Aside ≤ T)
include hT

theorem admin (h : d.Edits T e) (a : e.Admin f) : d.Edits T f := by
  cases a with
  | counters l f => exact h.mod (.modCounters (hT _ trivial) .refl f)
  | taken l rest fewer =>
    refine h.mod (.modPort (l := l) (hT _ trivial) .refl _ (fun b => ⟨fewer.trans b.buffer, b.normal, b.urgent⟩) ?_)
    exact fun _ ho => ho
  | bind k f => exact h.mod (.setBindCounts (hT _ trivial) .refl _)
  | commands f => exact h.mod (.modCommands (hT _ trivial) .refl f)
  | push l m => exact h.mod (.pushNormal (hT _ trivial) .refl m)
  | answer l m => exact h.answer l m
  | timeMark l src day => exact h.mod (.timeMark (hT _ trivial) .refl l src day)

theorem admins (h : d.Edits T e) (a : Relation.ReflTransGen Ev.Admin e f) : d.Edits T f := by
  induction a with
  | refl => exact h
  | tail _ a ih => exact ih.admin hT a

end

section
variable {T : Part → Prop} {d e f : Ev} (hT : Part.All ≤ T)
include hT

/-- An order writes everything but a change into OBSERVE, and that only where the part is not in OBSERVE already. -/
theorem order (h : d.Edits T e) (ho : T .observe ∨ e.s.mode = .observe) (o : e.Order f) : d.Edits T f := by
  have hB := blocks_le hT
  cases o with
  | sample i r x => exact h.sampleTelegram (sec_le hB i) r x
  | breakerState obj body => exact h.breakerState hB obj body
  | lineTest obj body => exact h.takeLineTest hB obj body
  | pointPosition p body => exact h.takePointPosition (point_le hB p) body
  | contact p r body => exact h.takeContact (point_le hB p) r body
  | vehicleStatus st => exact h.vehicleStatus hB st
  | routeRequest body => exact h.takeRouteRequest (traffic_le hB) body
  | sectionClose i => exact h.sectionClose (sec_le hB i)
  | sectionOpen i trip => exact h.sectionOpen (sec_le hB i) trip
  | sectionReset i => exact h.sectionReset (sec_le hB i)
  | sectionIsolate i force => exact h.sectionIsolate (sec_le hB i) force
  | sectionRelease i => exact h.sectionRelease (sec_le hB i)
  | stationClose => exact h.stationClose hB
  | stationOpen trip => exact h.stationOpen hB trip
  | stationReset => exact h.stationReset hB
  | pointSet p l => exact h.pointSet (point_le hB p) l
  | pointLock p l => exact h.pointLock (point_le hB p) l
  | pointUnlock p => exact h.pointUnlock (point_le hB p)
  | pointClear p => exact h.pointClear (point_le hB p)
  | vehicleForget n => exact h.vehicleForget (traffic_le hB) n
  | writeEntry table index entry => exact h.writeEntry hT table index entry
  | entryActive table index value => exact h.entryActive hT table index value
  | setMode b => exact h.setMode hT ho b
  | clearIncidents => exact h.mod (.setIncidents (hT _ trivial) .refl _)
  | storeRead r code a n => exact h.storeRead (aside_le hT) r code a n
  | storeWrite r code a bs => exact h.storeWrite (aside_le hT) r code a bs
  | storeSave r code => exact h.storeSave (aside_le hT) r code
  | storeReload r code => exact h.storeReload (aside_le hT) r code

theorem sweep (hw : T .whole) (h : d.Edits T e) (o : e.Sweep f) : d.s.Edits T f.s := by
  cases o with
  | clearCounters => exact h.state.edit hw (.clearCounters _)
  | restartCold tag => exact h.state.coldStart hw _ _
  | restartWarm tag => exact (h.warmRestart hT hw tag).state

theorem expiry (h : d.Edits T e) (x : e.Expiry f) : d.Edits T f := by
  have hB := blocks_le hT
  cases x with
  | answered => exact h.transactionAnswered hT
  | transaction => exact h.transactionExpiry hT
  | closeConfirmTime i => exact h.closeConfirmTimeExpiry (sec_le hB i)
  | sectionOpen i => exact h.sectionOpenExpiry (sec_le hB i)
  | sectionTrip i => exact h.sectionTripExpiry hB i
  | stationClose => exact h.stationCloseExpiry hB
  | stationOpen => exact h.stationOpenExpiry hB
  | backupTrip => exact h.backupTripExpiry hB
  | stale i r => exact h.staleExpiry (sec_le hB i) r
  | blind i => exact h.blindExpiry (sec_le hB i)
  | deadTime i => exact h.deadTimeExpiry (sec_le hB i)
  | hold i => exact h.holdExpiry (sec_le hB i)
  | lineTest i => exact h.lineTestExpiry (sec_le hB i)
  | reclaim i => exact h.reclaimExpiry (sec_le hB i)
  | window n => exact h.windowExpiry hB n
  | admission v => exact h.admissionExpiry (traffic_le hB) v
  | silence v => exact h.silenceExpiry (traffic_le hB) v
  | life p v => exact h.lifeExpiry (point_le hB p) v
  | throwing p => exact h.throwExpiry (point_le hB p) (hT _ trivial)
  | controlSilence => exact h.silenceTaken hT

end

end Ev.Edits

/-- R175: the control station being heard leaves OBSERVE as it is. -/
theorem Ev.controlHeard_mode {e : Ev} (h : e.s.mode = .observe) : e.controlHeard.s.mode = .observe := by
  unfold Ev.controlHeard
  extract_lets heard
  have hm : heard.s.mode = .observe := h
  rw [if_neg (by rw [hm]; nofun)]
  exact hm

theorem Ev.Admin.mode {e f : Ev} (a : e.Admin f) : f.s.mode = e.s.mode := by
  cases a with
  | timeMark l src day =>
    change (e.s.timeMark l src day).mode = e.s.mode
    unfold State.timeMark
    split
    · split
      · split <;> rfl
      · rfl
    · rfl
  | counters | taken | push => simp [State.mode, State.modCounters]
  | bind | commands | answer => rfl

section
variable {T : Part → Prop} (hT : Part.All ≤ T)
include hT

/-- What comes before an order. -/
theorem Ev.Begun.edits {d e : Ev} (h : d.Begun e) : d.Edits T e ∧ (d.s.mode = .observe → e.s.mode = .observe) := by
  induction h with
  | refl => exact ⟨.refl, id⟩
  | tail _ a ih =>
    obtain ⟨edits, mode⟩ := ih
    rcases a with a | rfl
    · exact ⟨edits.admin (Ev.Edits.aside_le hT) a, fun hd => a.mode.trans (mode hd)⟩
    · exact ⟨edits.controlHeard hT, fun hd => Ev.controlHeard_mode (mode hd)⟩

theorem Ev.Ran.edits (hw : T .whole) {d e : Ev} (h : d.Ran e) (ho : T .observe ∨ d.s.mode = .observe) : d.s.Edits T e.s := by
  obtain ⟨f, g, hb, order, admins⟩ := h
  obtain ⟨edits, mode⟩ := hb.edits hT
  have ordered : d.s.Edits T g.s := by
    rcases order with rfl | ⟨_, o | o⟩
    · exact edits.state
    · exact (edits.order hT (ho.imp_right mode) o).state
    · exact edits.sweep hT hw o
  exact ordered.trans (Ev.Edits.refl.admins (Ev.Edits.aside_le hT) admins).state

theorem Ev.edits_finish (e : Ev) : e.s.Edits T e.finish :=
  Ev.Edits.refl.finish (Ev.Edits.blocks_le hT) fun _ => hT _ trivial

/-- What a step writes. -/
theorem State.Stepped.edits (hw : T .whole) {s t : State} (h : s.Stepped t) (ho : T .observe ∨ s.mode = .observe) : s.Edits T t := by
  cases h with
  | stays => exact .refl
  | port l h =>
    refine h.mono ?_
    rintro _ rfl
    exact hT _ trivial
  | ran h => exact (h.edits hT hw ho).trans (Ev.edits_finish hT _)
  | expired h => exact (Ev.Edits.refl.expiry hT h).state.trans (Ev.edits_finish hT _)
  | dayRollover => exact State.Edits.refl.dayRollover (hT _ trivial)
  | supplyReturns cause =>
    have up : s.Edits T { s with supplyUp := true } := State.Edits.refl.pins hw true s.resetLine
    unfold State.supplyReturns
    dsimp only
    split
    · exact up.hold (hT _ trivial) (hT _ trivial) hw
    · exact up.coldStart hw _ _
  | supplyFails =>
    exact (State.Edits.refl.hold (hT _ trivial) (hT _ trivial) hw).pins hw false _
  | assertReset =>
    exact (State.Edits.refl.hold (hT _ trivial) (hT _ trivial) hw).pins hw _ true
  | releaseReset =>
    have low : s.Edits T { s with resetLine := false } := State.Edits.refl.pins hw s.supplyUp false
    unfold State.releaseReset
    split
    · dsimp only
      split
      · exact low.coldStart hw _ _
      · exact low
    · exact .refl

end

/-- A step is one of the kinds of `State.Stepped` from the queue's rest, or a millisecond. -/
theorem stepped_of_step {s t : State} (h : step s = .next t) :
    t = s.tick ∨ ∃ rest, State.Stepped { s with pending := rest } t := by
  unfold step at h
  split at h
  · cases h
    exact .inl rfl
  · exact .inr ⟨_, State.Stepped.of_exec _ h⟩

/-- What every write keeps, every step keeps. -/
theorem keeps_of_step {P : State → Prop} {s t : State} (h : step s = .next t)
    (hP : ∀ u v, State.Edits (fun _ => True) u v → P u → P v) (hq : ∀ rest, P s → P { s with pending := rest }) (hs : P s) :
    P t := by
  rcases stepped_of_step h with rfl | ⟨rest, stepped⟩
  · exact hP s _ (State.Edits.refl.edit trivial (.tick s)) hs
  · exact hP _ _ (stepped.edits (fun _ _ => trivial) trivial (.inl trivial)) (hq rest hs)

end Sys2Proof.Machine

section

open Sys2Proof Sys2Proof.Machine

/-- Settles O5: every write keeps the limits, and a step is a run of writes. -/
theorem everyStepKeepsBuffersAndCountsInRange : Obligations.EveryStepKeepsBuffersAndCountsInRange :=
  fun _ _ hs h => keeps_of_step h (fun _ _ e => e.bounded) (fun _ b => ⟨b.field, b.control, b.points⟩) hs

/-- Settles O6: every write keeps the store canonical, and a step is a run of writes. -/
theorem everyStepKeepsTheStoreCanonical : Obligations.EveryStepKeepsTheStoreCanonical :=
  fun _ _ hs h => keeps_of_step (P := fun s => Memory.wf s.storeMem = true) h (fun _ _ e => e.canonical) (fun _ => id) hs

/-- Settles O8: a command that finds the part in OBSERVE makes no change into it, so that every write it makes before the
last is made in OBSERVE too, and such a write queues no order and asserts no line. -/
theorem nothingIsOrderedInObserve : Obligations.NothingIsOrderedInObserve := by
  intro c s t h hs ht
  have edits : s.Edits (· ≠ .observe) t :=
    (State.Stepped.of_exec c h).edits (fun k hk => by rintro rfl; exact hk) nofun (.inr hs)
  have quiet := edits.quiet (fun x => x rfl) ht
  exact ⟨quiet.orders, quiet.lines, quiet.stationLine⟩

end

/-! SUPPORT. R131 at the end of every event: `Ev.finish` tells each active point whether its supply section is LIVE, whatever
the event was; the commands that are no event leave what a point is told, or reset the part. -/

namespace Sys2Proof.Machine

open Sys2Proof

/-- R131: one point has been told whether its supply section is LIVE. -/
def State.Told (s : State) (p : PointNo) : Prop :=
  (s.pointEntry p).active = true → (s.point p).supplyLive = ((s.sec (s.pointEntry p).supply).ctl.state == .live)

/-- What is made for each point, and kept for the others, holds of every point. -/
theorem Ev.forPoints_all {Q : Ev → PointNo → Prop} (e : Ev) (f : Ev → PointNo → Ev) (does : ∀ e p, Q (f e p) p)
    (keeps : ∀ e p q, Q e q → Q (f e p) q) (p : PointNo) : Q (e.forPoints f) p := by
  have all : ∀ (l : List PointNo) (e : Ev), (p ∈ l ∨ Q e p) → Q (l.foldl f e) p := by
    intro l
    induction l with
    | nil => exact fun e h => h.resolve_left List.not_mem_nil
    | cons q l ih =>
      intro e h
      refine ih _ ?_
      rcases h with h | h
      · rcases List.mem_cons.mp h with rfl | h
        · exact .inr (does e p)
        · exact .inl h
      · exact .inr (keeps e q p h)
  exact all _ e (.inl (List.mem_finRange p))

theorem State.Told.of_eq {s t : State} {p : PointNo} (h : s.Told p) (hp : (t.point p).supplyLive = (s.point p).supplyLive)
    (hs : ∀ i, (t.sec i).ctl.state = (s.sec i).ctl.state) (ht : t.tables = s.tables) : t.Told p := by
  intro active
  have entry : t.pointEntry p = s.pointEntry p := by simp only [State.pointEntry, ht]
  rw [hp, hs, entry]
  exact h (entry ▸ active)

/-- The notice to a point writes its supply flag alone. -/
theorem Ev.supplyNotice_told (e : Ev) (p : PointNo) : (e.supplyNotice p).s.Told p := by
  unfold Ev.supplyNotice
  extract_lets live told
  split
  · rename_i h
    intro active
    simpa [active] using h
  · have self : (told.s.point p).supplyLive = live := by simp [told]
    split
    · rw [Ev.serveHead_s]
      exact fun _ => self
    · exact fun _ => self

theorem Ev.supplyNotice_keeps (e : Ev) (p q : PointNo) (h : e.s.Told q) : (e.supplyNotice p).s.Told q := by
  by_cases hq : q = p
  · exact hq ▸ e.supplyNotice_told p
  · unfold Ev.supplyNotice
    extract_lets live told
    have kept : told.s.Told q := h.of_eq (congrArg _ (e.s.point_modPoint_of_ne (Ne.symm hq) _)) (fun _ => rfl) rfl
    split
    · exact h
    split
    · rw [Ev.serveHead_s]
      exact kept
    · exact kept

/-- R126: the service of a head tells no point anything. -/
theorem Ev.serveMarked_told (e : Ev) (h : ∀ p, e.s.Told p) (p : PointNo) : e.serveMarked.s.Told p := by
  have edits : e.Edits (fun k => ∃ q, Part.OfQueue q k) e.serveMarked := Ev.Edits.refl.serveMarked fun q _ h => ⟨q, h⟩
  refine (h p).of_eq (edits.state.supplyLive ?_ ?_) (fun i => by rw [edits.state.sec] <;> exact fun ⟨_, h⟩ => h) (edits.state.tables ?_ ?_) <;>
    exact fun ⟨_, h⟩ => h

/-- R131: every active point has been told at the end of an event. -/
theorem Ev.finish_suppliesTold (e : Ev) : e.finish.SuppliesTold := by
  have settled : ∀ p, e.settle.s.Told p :=
    Ev.serveMarked_told _ (Ev.forPoints_all (Q := fun e p => e.s.Told p) _ _ Ev.supplyNotice_told Ev.supplyNotice_keeps)
  have queued : e.settle.s.Edits (fun k => ∃ l, k = .normal l) e.finish :=
    List.foldlRecOn (motive := e.settle.s.Edits _) _ _ (State.Edits.pushAll ⟨_, rfl⟩ .refl _)
      fun _ k _ _ => .pushNormal ⟨_, rfl⟩ k _
  intro p
  refine (settled p).of_eq (queued.supplyLive ?_ ?_) (fun i => by rw [queued.sec] <;> exact nofun) (queued.tables ?_ ?_) <;>
    exact nofun

/-- A run of writes that goes to no section, no point's supply flag and no table. -/
theorem State.Edits.suppliesTold {T : Part → Prop} {s t : State} (h : s.Edits T t) (hs : s.SuppliesTold)
    (h1 : ∀ i, ¬T (.sec i)) (h2 : ∀ p, ¬T (.supply p)) (h3 : ¬T .tables) (h4 : ¬T .whole) : t.SuppliesTold := fun p =>
  State.Told.of_eq (hs p) (h.supplyLive (h2 p) h4) (fun i => by rw [h.sec (h1 i) h4]) (h.tables h3 h4)

/-- After a cold restart no point is active. -/
theorem State.coldStart_suppliesTold (s : State) (cause : RestartCause) (tag : Option Byte) :
    (s.coldStart cause tag).SuppliesTold := by
  intro p active
  have inactive : ((s.coldStart cause tag).pointEntry p).active = false := by
    change (State.reset.pointEntry p).active = false
    clear active
    revert p
    decide
  rw [inactive] at active
  cases active

theorem State.hold_suppliesTold {s : State} (h : s.SuppliesTold) : s.hold.SuppliesTold := by
  have ended : s.cutTransaction.endOperation.SuppliesTold := by
    refine State.Edits.suppliesTold (T := fun k => k = .memory ∨ k = .store)
      ((State.Edits.refl.cutTransaction (.inl rfl)).endOperation (.inr rfl)) h ?_ ?_ ?_ ?_ <;> simp
  intro p
  refine State.Told.of_eq (ended p) rfl (fun i => ?_) rfl
  simp [State.hold, State.releaseAllLines, State.sec]

theorem State.Stepped.suppliesTold {s t : State} (h : s.Stepped t) (hs : s.SuppliesTold) : t.SuppliesTold := by
  cases h with
  | stays => exact hs
  | port l h => exact h.suppliesTold hs nofun nofun nofun nofun
  | ran | expired => exact Ev.finish_suppliesTold _
  | dayRollover =>
    exact State.Edits.suppliesTold (T := (· = .mode)) (State.Edits.refl.dayRollover rfl) hs nofun nofun nofun nofun
  | supplyReturns cause =>
    unfold State.supplyReturns
    dsimp only
    split
    · exact State.hold_suppliesTold hs
    · exact State.coldStart_suppliesTold _ _ _
  | supplyFails | assertReset => exact State.hold_suppliesTold hs
  | releaseReset =>
    unfold State.releaseReset
    split
    · dsimp only
      split
      · exact State.coldStart_suppliesTold _ _ _
      · exact hs
    · exact hs

end Sys2Proof.Machine

section

open Sys2Proof Sys2Proof.Machine

/-- Settles O7: the end of every event tells the points; no other command moves what they have been told. -/
theorem everyStepTellsThePointsTheirSupply : Obligations.EveryStepTellsThePointsTheirSupply := by
  intro s t hs h
  rcases stepped_of_step h with rfl | ⟨rest, stepped⟩
  · exact hs
  · exact stepped.suppliesTold hs

end

/-! SUPPORT. The step of a single command, the state right after reset, and the part held in reset. -/

namespace Sys2Proof.Machine

open Sys2Proof

/-- R27, R49, R52, R65: every section's records after reset. -/
theorem State.reset_sec (i : SecNo) : State.reset.sec i = coldSec := by
  revert i
  decide

theorem State.reset_point (p : PointNo) : State.reset.point p = coldPoint := by
  revert p
  decide

/-- R4: cold-restart values meet the law of LIVE. -/
theorem State.sectionLawful_of_cold {s : State} {i : SecNo} (h : s.sec i = coldSec) : s.SectionLawful i where
  live x := by rw [h] at x; cases x
  closing x := by rw [h] at x; cases x
  former st r x := by rw [h] at x; cases x
  gating x := by rw [h] at x; cases x
  testing x := by rw [h] at x; cases x
  inactive _ := by rw [h]; exact ⟨rfl, rfl⟩

theorem State.lawful_of_cold {s : State} (h : ∀ i, s.sec i = coldSec) : s.Lawful :=
  ⟨fun i => State.sectionLawful_of_cold (h i), fun _ => h⟩

end Sys2Proof.Machine

section

open Sys2Proof Sys2Proof.Machine

/-- Settles O1: `step` reads the queue. -/
theorem stepTakesTheFrontCommand : Obligations.StepTakesTheFrontCommand := by
  intro s
  refine ⟨fun c rest h => ?_, fun h => ?_⟩
  · unfold step
    rw [h]
  · unfold step
    split
    · rfl
    · rename_i hp
      rw [h] at hp
      cases hp

/-- Settles O2, by evaluating the state after reset, its sections and its points. -/
theorem resetHoldsTheColdRestartValues : Obligations.ResetHoldsTheColdRestartValues := by
  refine ⟨fun i => ?_, rfl, rfl, rfl, fun p => ?_, fun l => ?_, rfl, rfl, rfl, ?_⟩
  · rw [State.reset_sec]
    exact ⟨rfl, rfl, rfl, rfl, rfl, rfl, rfl, rfl, rfl⟩
  · rw [State.reset_point]
    exact ⟨rfl, rfl, rfl, rfl, rfl⟩
  · cases l <;> exact ⟨rfl, rfl, rfl, rfl, rfl, rfl⟩
  · exact ⟨rfl, rfl, rfl⟩

/-- Settles O3: every record stands at its cold-restart value, every queue is empty, and no point is active. -/
theorem resetMeetsTheInvariants : Obligations.ResetMeetsTheInvariants := by
  refine ⟨State.lawful_of_cold State.reset_sec, ?_, ?_, Memory.wf_reset⟩
  · exact State.reset.bounded_coldStart .powerOn none
  · exact State.reset.coldStart_suppliesTold .powerOn none

/-- Settles O12: every meaning but the five of the supply and the reset line runs only while the part is not held. -/
theorem nothingActsWhileHeldInReset : Obligations.NothingActsWhileHeldInReset := by
  intro c s h hc
  cases c with
  | powerOn | supplyDip | supplyFailure | resetLineAsserted | resetLineReleased => simp at hc
  | _ => exact congrArg Host.Outcome.next (if_pos h)

end

/-! SUPPORT. The law of LIVE, kept operation by operation. `State.SecLaw` is R4's law for one active section; its two marks
say whether the clauses about the positions and the clauses about the reclose phase are demanded, so that an operation which
is in the middle of moving a section can be followed. -/

namespace Sys2Proof.Machine

open Sys2Proof

/-! ### What the law reads -/

/-- What R4's law reads of a section: its entry's flag, state, position, former state and phase, and the station position. -/
abbrev State.lawView (s : State) (i : SecNo) :
    Bool × SecState × Position × Option (SecState × SecReason) × Phase × Position :=
  ((s.secEntry i).active, (s.sec i).ctl.state, (s.sec i).ctl.position, (s.sec i).ctl.former, (s.sec i).rcl.phase,
    s.station.position)

/-- R4's law for one active section. `L` demands the clauses about the positions, and `Q` those about the reclose phase. -/
structure State.SecLaw (L Q : Prop) (s : State) (i : SecNo) : Prop where
  active : (s.secEntry i).active = true
  live : L → (s.sec i).ctl.state = .live → (s.sec i).ctl.position = .closed ∧ s.station.position = .closed
  closing : L → (s.sec i).ctl.state = .closing → s.station.position = .closed
  former : ∀ st r, (s.sec i).ctl.former = some (st, r) → st = .lockedOut ∨ st = .isolated
  gating : Q → (s.sec i).rcl.phase = .gating → (s.sec i).ctl.state = .waiting
  testing : Q → (s.sec i).rcl.phase = .testing → (s.sec i).ctl.state = .testing

/-- The section's phase ties it to no state. -/
def State.Untied (s : State) (i : SecNo) : Prop := (s.sec i).rcl.phase ≠ .gating ∧ (s.sec i).rcl.phase ≠ .testing

theorem State.SectionLawful.of_view {s t : State} {i : SecNo} (h : s.SectionLawful i) (e : t.lawView i = s.lawView i) :
    t.SectionLawful i := by
  simp only [State.lawView, Prod.mk.injEq] at e
  obtain ⟨ea, es, ep, ef, eh, et⟩ := e
  exact ⟨by rw [es, ep, et]; exact h.live, by rw [es, et]; exact h.closing, by rw [ef]; exact h.former,
    by rw [eh, es]; exact h.gating, by rw [eh, es]; exact h.testing, by rw [ea, es, eh]; exact h.inactive⟩

theorem State.stationPosition_of_view {s t : State} {i : SecNo} (e : t.lawView i = s.lawView i) :
    t.station.position = s.station.position := by
  simp only [State.lawView, Prod.mk.injEq] at e
  exact e.2.2.2.2.2

theorem State.position_of_view {s t : State} {i : SecNo} (e : t.lawView i = s.lawView i) :
    (t.sec i).ctl.position = (s.sec i).ctl.position := by
  simp only [State.lawView, Prod.mk.injEq] at e
  exact e.2.2.1

/-- A run of writes that goes past a section, the station and the tables. -/
theorem State.Edits.lawView {T : Part → Prop} {s t : State} {i : SecNo} (h : s.Edits T t) (h1 : ¬T (.sec i))
    (h2 : ¬T .station) (h3 : ¬T .tables) (h4 : ¬T .whole) : t.lawView i = s.lawView i := by
  simp only [State.lawView, State.secEntry, h.sec h1 h4, h.station h2 h4, h.tables h3 h4]

namespace State.SectionLawful

variable {s : State} {i : SecNo}

/-- R1: what is not DEAD and IDLE is active. -/
theorem active_of_state (h : s.SectionLawful i) (hs : (s.sec i).ctl.state ≠ .dead) : (s.secEntry i).active = true := by
  by_contra ha
  exact hs (h.inactive (Bool.eq_false_of_not_eq_true ha)).1

theorem active_of_phase (h : s.SectionLawful i) (hs : (s.sec i).rcl.phase ≠ .idle) : (s.secEntry i).active = true := by
  by_contra ha
  exact hs (h.inactive (Bool.eq_false_of_not_eq_true ha)).2

theorem secLaw (h : s.SectionLawful i) (ha : (s.secEntry i).active = true) : s.SecLaw True True i :=
  ⟨ha, fun _ => h.live, fun _ => h.closing, h.former, fun _ => h.gating, fun _ => h.testing⟩

end State.SectionLawful

namespace State.SecLaw

section
variable {L Q : Prop} {s t : State} {i : SecNo}

theorem lawful (h : s.SecLaw True True i) : s.SectionLawful i :=
  ⟨h.live trivial, h.closing trivial, h.former, h.gating trivial, h.testing trivial, fun x => by rw [h.active] at x; cases x⟩

theorem mono {L' Q' : Prop} (h : s.SecLaw L Q i) (hl : L' → L) (hq : Q' → Q) : s.SecLaw L' Q' i :=
  ⟨h.active, h.live ∘ hl, h.closing ∘ hl, h.former, h.gating ∘ hq, h.testing ∘ hq⟩

theorem weaken (h : s.SecLaw True True i) : s.SecLaw L Q i := h.mono (fun _ => trivial) fun _ => trivial

theorem of_view (h : s.SecLaw L Q i) (e : t.lawView i = s.lawView i) : t.SecLaw L Q i := by
  simp only [State.lawView, Prod.mk.injEq] at e
  obtain ⟨ea, es, ep, ef, eh, et⟩ := e
  exact ⟨by rw [ea]; exact h.active, by rw [es, ep, et]; exact h.live, by rw [es, et]; exact h.closing,
    by rw [ef]; exact h.former, by rw [eh, es]; exact h.gating, by rw [eh, es]; exact h.testing⟩

/-- R65: a section that is neither WAITING nor TESTING is in no phase tied to a state. -/
theorem untied (h : s.SecLaw L True i) (hw : (s.sec i).ctl.state ≠ .waiting) (ht : (s.sec i).ctl.state ≠ .testing) :
    s.Untied i := ⟨fun x => hw (h.gating trivial x), fun x => ht (h.testing trivial x)⟩

/-- The phases cannot break the law of a section that is in none of the two tied ones. -/
theorem of_untied (h : s.SecLaw L Q i) (hu : s.Untied i) : s.SecLaw L True i :=
  ⟨h.active, h.live, h.closing, h.former, fun _ x => absurd x hu.1, fun _ x => absurd x hu.2⟩

/-- A new state: LIVE only with both positions CLOSED, and CLOSING with the station's. -/
theorem setSec {L' : Prop} (h : s.SecLaw L Q i) (st : SecState) (r : SecReason)
    (hl : L' → st = .live → (s.sec i).ctl.position = .closed ∧ s.station.position = .closed)
    (hc : L' → st = .closing → s.station.position = .closed) : (s.setSec i st r).SecLaw L' False i := by
  refine ⟨h.active, ?_, ?_, ?_, nofun, nofun⟩
  · simpa [State.setSec, State.modCtl] using hl
  · simpa [State.setSec, State.modCtl] using hc
  · simpa [State.setSec, State.modCtl] using h.former

/-- A new state that is neither LIVE nor CLOSING. -/
theorem setDown {L' : Prop} (h : s.SecLaw L Q i) (st : SecState) (r : SecReason) (hl : st ≠ .live) (hc : st ≠ .closing) :
    (s.setSec i st r).SecLaw L' False i := h.setSec st r (fun _ x => absurd x hl) fun _ x => absurd x hc


/-- A change of the reclose record, by the phase it ends in. -/
theorem modRcl {Q' : Prop} (h : s.SecLaw L Q i) (f : Reclose → Reclose)
    (hg : Q' → (f (s.sec i).rcl).phase = .gating → (s.sec i).ctl.state = .waiting)
    (ht : Q' → (f (s.sec i).rcl).phase = .testing → (s.sec i).ctl.state = .testing) : (s.modRcl i f).SecLaw L Q' i := by
  refine ⟨h.active, ?_, ?_, ?_, ?_, ?_⟩
  · simpa [State.modRcl] using h.live
  · simpa [State.modRcl] using h.closing
  · simpa [State.modRcl] using h.former
  · simpa [State.modRcl] using hg
  · simpa [State.modRcl] using ht

/-- R78, R79: the sequence ends. -/
theorem ended (h : s.SecLaw L Q i) : (s.modRcl i Reclose.ended).SecLaw L True i := h.modRcl _ nofun nofun

/-- A change of the reclose record that ends in a phase tied to no state. -/
theorem untie (h : s.SecLaw L Q i) (f : Reclose → Reclose)
    (hp : (f (s.sec i).rcl).phase ≠ .gating ∧ (f (s.sec i).rcl).phase ≠ .testing) : (s.modRcl i f).SecLaw L True i :=
  h.modRcl f (fun _ x => absurd x hp.1) fun _ x => absurd x hp.2

theorem ite {c : Prop} [Decidable c] {e f : Ev} (h : c → e.s.SecLaw L Q i) (k : ¬c → f.s.SecLaw L Q i) :
    (if c then e else f).s.SecLaw L Q i := by
  split
  · exact h ‹_›
  · exact k ‹_›

/-- A change within an event that the law does not read. -/
theorem mod {e : Ev} (h : e.s.SecLaw L Q i) {f : State → State} (hf : (f e.s).lawView i = e.s.lawView i) :
    (e.mod f).s.SecLaw L Q i := h.of_view hf

end
end State.SecLaw

section
variable (s : State) (i : SecNo)

@[simp] theorem State.lawView_modFeed (f : Feeder → Feeder) : (s.modFeed i f).lawView i = s.lawView i := by
  simp [State.lawView, State.modFeed, State.secEntry]

@[simp] theorem State.lawView_modSel (f : Selector → Selector) : (s.modSel i f).lawView i = s.lawView i := by
  simp [State.lawView, State.modSel, State.secEntry]

@[simp] theorem State.lawView_beginBlind : (s.beginBlind i).lawView i = s.lawView i := s.lawView_modSel i _

@[simp] theorem State.lawView_setSource (r : SourceRole) (v : Sec → Source) :
    (s.modSec i fun x => x.setSource r (v x)).lawView i = s.lawView i := by
  cases r <;> simp [State.lawView, State.secEntry, Sec.setSource]

@[simp] theorem State.lawView_setPending (p : Option PendingOrder) : (s.setPending i p).lawView i = s.lawView i := by
  simp [State.lawView, State.setPending, State.modCtl, State.secEntry]

@[simp] theorem State.lawView_releaseLine : (s.releaseLine i).lawView i = s.lawView i := by
  simp [State.lawView, State.releaseLine, State.modCtl, State.secEntry]

@[simp] theorem State.lawView_assertLine : (s.assertLine i).lawView i = s.lawView i := by
  rcases s.assertLine_cases i with ⟨_, e⟩ | ⟨_, e⟩ <;> rw [e]
  simp [State.lawView, State.modCtl, State.secEntry]

/-- The current incident is no part of the law. -/
@[simp] theorem State.lawView_setIncident (n : Option Nat) :
    (s.modCtl i fun c => { c with incident := n }).lawView i = s.lawView i := by
  simp [State.lawView, State.modCtl, State.secEntry]

theorem State.lawView_modRcl {f : Reclose → Reclose} (h : (f (s.sec i).rcl).phase = (s.sec i).rcl.phase) :
    (s.modRcl i f).lawView i = s.lawView i := by
  simp [State.lawView, State.modRcl, State.secEntry, h]

end

/-- What an operation on incidents, vehicles and queues writes. -/
def Part.Beside : Part → Prop
  | .incidents | .vehicles | .urgent | .normal _ => True
  | _ => False

theorem State.Edits.lawView_beside {s t : State} (h : s.Edits Part.Beside t) (i : SecNo) : t.lawView i = s.lawView i :=
  h.lawView id id id id

theorem Ev.Edits.lawView_beside {d e : Ev} (h : d.Edits Part.Beside e) (i : SecNo) : e.s.lawView i = d.s.lawView i :=
  h.state.lawView_beside i

section
variable (s : State) (i : SecNo)

@[simp] theorem State.lawView_queueOrder (obj : BreakerObj) (k : OrderKind) : (s.queueOrder obj k).lawView i = s.lawView i :=
  (State.Edits.refl.queueOrder trivial obj k).lawView_beside i

@[simp] theorem State.lawView_withdraw (obj : BreakerObj) : (s.withdraw obj).lawView i = s.lawView i :=
  (State.Edits.refl.withdraw trivial obj).lawView_beside i

@[simp] theorem State.lawView_pushNormal (l : Line) (m : Telegram) : (s.pushNormal l m).lawView i = s.lawView i :=
  (State.Edits.refl.pushNormal trivial m).lawView_beside i

@[simp] theorem State.lawView_askPolesDown (j : SecNo) : (s.askPolesDown j).lawView i = s.lawView i :=
  (State.Edits.refl.askPolesDown trivial trivial j).lawView_beside i

@[simp] theorem State.lawView_requestPolesDown (n m : Nat) : (s.requestPolesDown n m).lawView i = s.lawView i :=
  (State.Edits.refl.requestPolesDown trivial trivial n m).lawView_beside i

end

section
variable (e : Ev) (i : SecNo)

@[simp] theorem Ev.lawView_closeIncident (j : SecNo) (o : IncOutcome) : (e.closeIncident j o).s.lawView i = e.s.lawView i :=
  (Ev.Edits.refl.closeIncident trivial trivial j o).lawView_beside i

@[simp] theorem Ev.lawView_addShot (j : SecNo) (n : Nat) (o : ShotOutcome) : (e.addShot j n o).s.lawView i = e.s.lawView i :=
  (Ev.Edits.refl.addShot trivial j n o).lawView_beside i

@[simp] theorem Ev.lawView_addIncident (r : Incident) : (e.addIncident r).s.lawView i = e.s.lawView i :=
  (Ev.Edits.refl.addIncident trivial r).lawView_beside i

@[simp] theorem Ev.lawView_recordClosed (k : IncKind) (obj : IncObject) (x : Option Detail) (c : Option Captured) :
    (e.recordClosed k obj x c).s.lawView i = e.s.lawView i :=
  (Ev.Edits.refl.recordClosed trivial k obj x c).lawView_beside i

@[simp] theorem Ev.lawView_continueTrip (n : Nat) (k : TripKind) (c : Option Captured) :
    (e.continueTrip n k c).s.lawView i = e.s.lawView i := (Ev.Edits.refl.continueTrip trivial n k c).lawView_beside i

@[simp] theorem Ev.lawView_reportIncident (n : Nat) (c : IncCause) : (e.reportIncident n c).s.lawView i = e.s.lawView i :=
  (Ev.Edits.refl.reportIncident n c).lawView_beside i

end

/-! ### Operations of one section -/

namespace State.SecLaw

section
variable {L Q : Prop} {e : Ev} {i : SecNo}

theorem recordClosed (h : e.s.SecLaw L Q i) (k : IncKind) (obj : IncObject) (x : Option Detail) (c : Option Captured) :
    (e.recordClosed k obj x c).s.SecLaw L Q i := h.of_view (Ev.lawView_recordClosed e i k obj x c)

theorem closeIncident (h : e.s.SecLaw L Q i) (o : IncOutcome) : (e.closeIncident i o).s.SecLaw L Q i :=
  h.of_view (Ev.lawView_closeIncident e i i o)

theorem addShot (h : e.s.SecLaw L Q i) (n : Nat) (o : ShotOutcome) : (e.addShot i n o).s.SecLaw L Q i :=
  h.of_view (Ev.lawView_addShot e i i n o)

theorem lockout (h : e.s.SecLaw L Q i) (r : SecReason) : (e.lockout i r).s.SecLaw True True i :=
  of_view (h.setDown .lockedOut r nofun nofun).ended (Ev.lawView_closeIncident _ i i .lockedOut)

/-- A sequence cancelled leaves no phase that is tied to a state. -/
theorem cancelSequence (h : e.s.SecLaw L Q i) : (e.cancelSequence i).s.SecLaw L True i := by
  unfold Ev.cancelSequence
  split
  · rename_i idle
    exact h.of_untied ⟨by rw [idle]; nofun, by rw [idle]; nofun⟩
  · dsimp only [Ev.mod_s]
    split
    · exact h.ended
    · refine of_view (h.ended.modRcl _ ?_ ?_) (State.lawView_setIncident _ i _)
      · simp [State.modRcl, Reclose.ended]
      · simp [State.modRcl, Reclose.ended]

theorem closeThenCancel (h : e.s.SecLaw L Q i) (o : IncOutcome) :
    ((e.closeIncident i o).cancelSequence i).s.SecLaw L True i :=
  (h.closeIncident o).cancelSequence

theorem startDeadTime (h : e.s.SecLaw L Q i) (n : Nat) : (e.startDeadTime i n).s.SecLaw True True i := by
  unfold Ev.startDeadTime
  extract_lets gating
  have h : gating.s.SecLaw True True i := by
    unfold gating
    rw [Ev.mod_s]
    refine ((h.setDown .waiting .shot nofun nofun).modRcl (Q' := True) _ ?_ ?_).modRcl _ ?_ ?_
    all_goals simp [State.setSec, State.modCtl, State.modRcl]
  split
  · exact h.lockout _
  · exact h.of_view (State.lawView_askPolesDown _ i i)

theorem shotFailed (h : e.s.SecLaw L Q i) (o : ShotOutcome) : (e.shotFailed i o).s.SecLaw True True i := by
  unfold Ev.shotFailed
  extract_lets ended
  have h : ended.s.SecLaw L Q i :=
    (h.addShot _ o).mod (State.lawView_modRcl _ i rfl)
  split
  · exact h.lockout _
  split
  · exact h.lockout _
  · exact h.startDeadTime _

theorem closeRequest (h : e.s.SecLaw L True i) : (e.closeRequest i).s.SecLaw L True i := by
  unfold Ev.closeRequest
  split
  · split
    · rename_i allowed
      simp only [State.closeAllowed, Bool.and_eq_true, beq_iff_eq] at allowed
      obtain ⟨⟨⟨_, closed⟩, _⟩, _⟩ := allowed
      rw [Ev.mod_s]
      refine untie (setSec (L := L) (Q := True) ?_ .closing .shot (fun _ => nofun) fun _ _ => ?_) _ ⟨?_, ?_⟩
      · exact h.of_view (by simp)
      · exact (State.stationPosition_of_view (i := i) (by simp)).trans closed
      all_goals nofun
    · exact (h.shotFailed _).weaken
  · exact h

theorem beginShot (h : e.s.SecLaw L True i) : (e.beginShot i).s.SecLaw L True i := by
  unfold Ev.beginShot
  split
  · exact h
  split
  · exact (h.lockout _).weaken
  · extract_lets begun
    have h : begun.s.SecLaw L True i := h.mod (State.lawView_modRcl _ i rfl)
    split
    · have tested (x : Reclose → Reclose) (hx : (x ((begun.s.setSec i .testing .shot).sec i).rcl).phase = .testing) :
          ((begun.s.setSec i .testing .shot).modRcl i x).SecLaw L True i :=
        (h.setDown .testing .shot nofun nofun).modRcl x (fun _ y => by rw [hx] at y; cases y)
          fun _ _ => by simp [State.setSec, State.modCtl]
      exact of_view (tested _ rfl) (State.lawView_pushNormal _ i _ _)
    · exact h.closeRequest

theorem reevaluate (h : e.s.SecLaw L True i) (g : Gate) : (e.reevaluate i g).s.SecLaw L True i := by
  unfold Ev.reevaluate
  split
  · extract_lets judged
    have h : judged.s.SecLaw L True i := h.mod (State.lawView_modRcl _ i rfl)
    split
    · exact (h.lockout _).weaken
    split
    · exact h.beginShot
    · exact h
  · exact h

theorem tripConfirmed (h : e.s.SecLaw L Q i) (k : Option TripKind) : (e.tripConfirmed i k).s.SecLaw True True i := by
  unfold Ev.tripConfirmed
  extract_lets kept base
  have h : kept.s.SecLaw L Q i := h.mod (State.lawView_modRcl _ i rfl)
  split
  · exact h.lockout _
  split
  · exact h.lockout _
  split
  · exact h.lockout _
  · exact (h.mod (State.lawView_modRcl _ i rfl)).startDeadTime _

theorem closeConfirmed (h : e.s.SecLaw L Q i) : (e.closeConfirmed i).s.SecLaw L True i := by
  unfold Ev.closeConfirmed
  rw [Ev.mod_s]
  refine untie (h.addShot _ _) _ ⟨?_, ?_⟩ <;> nofun

theorem reclaimOver (h : e.s.SecLaw L Q i) : (e.reclaimOver i).s.SecLaw L True i := by
  refine mod (of_view (untie h _ ⟨?_, ?_⟩) (Ev.lawView_closeIncident _ i i .reclosed)) (State.lawView_setIncident _ i none)
  all_goals nofun

theorem tripInReclaim (h : e.s.SecLaw L True i) : (e.tripInReclaim i).s.SecLaw L True i := by
  unfold Ev.tripInReclaim
  split
  · rw [Ev.mod_s]
    refine untie h _ ⟨?_, ?_⟩ <;> nofun
  · exact h

theorem retripped (h : e.s.SecLaw L Q i) : (e.retripped i).s.SecLaw L True i := by
  unfold Ev.retripped
  rw [Ev.mod_s]
  refine untie (h.addShot _ _) _ ⟨?_, ?_⟩ <;> nofun

theorem lineTestResult (h : e.s.SecLaw L True i) (x : BitVec 16) : (e.lineTestResult i x).s.SecLaw L True i := by
  unfold Ev.lineTestResult
  extract_lets judged recorded
  have h : recorded.s.SecLaw L True i := h.mod (State.lawView_modRcl _ i rfl)
  refine ite (fun _ => ite (fun _ => (h.shotFailed _).weaken) fun _ => closeRequest ?_) fun _ => h
  exact h.mod (State.lawView_modRcl _ i rfl)

theorem modeActsOn (h : e.s.SecLaw L True i) (m : Mode) : (e.modeActsOn m i).s.SecLaw L True i := by
  unfold Ev.modeActsOn
  dsimp only
  split
  · split
    · exact (h.lockout _).weaken
    · exact h
  · split
    · exact (h.lockout _).weaken
    · exact h
  · exact h

theorem attach (h : e.s.SecLaw L True i) (n v : Nat) (f : FaultCode) (located : Bool) :
    (e.attach i n v f located).s.SecLaw L True i := by
  unfold Ev.attach
  split
  · exact h
  · extract_lets entry room listed ordered gated
    have h : listed.s.SecLaw L True i := by
      have edits : e.Edits Part.Beside listed := by
        refine .ite (fun _ => Ev.Edits.refl.mod ?_) fun _ => Ev.Edits.refl.mod ?_
        · exact .modVehicle trivial (.modRecord trivial .refl _ _) _ _
        · exact .modRecord trivial .refl _ _
      exact h.of_view (edits.lawView_beside i)
    have h : ordered.s.SecLaw L True i := h.of_view (State.lawView_requestPolesDown _ i _ _)
    have h : gated.s.SecLaw L True i := by
      unfold gated
      split
      · exact h.reevaluate _
      · exact h
    exact h.of_view (Ev.lawView_reportIncident _ i _ _)

theorem openTrip (h : e.s.SecLaw L True i) (k : TripKind) (c : Option Captured) :
    (e.openTrip i k c).s.SecLaw L True i :=
  List.foldlRecOn (motive := fun e : Ev => e.s.SecLaw L True i) _ _
    ((h.of_view (Ev.lawView_addIncident e i _)).of_view (State.lawView_setIncident _ i _)) fun _ h _ _ => h.attach _ _ _ _

theorem recordTrip (h : e.s.SecLaw L True i) (k : TripKind) (c : Option Captured) :
    (e.recordTrip i k c).s.SecLaw L True i := by
  unfold Ev.recordTrip
  split
  · exact h.of_view (Ev.lawView_continueTrip e i _ _ _)
  · exact h.openTrip _ _

theorem openCommanded (h : e.s.SecLaw L Q i) : (e.openCommanded i).s.SecLaw L Q i :=
  (h.of_view (Ev.lawView_addIncident e i _)).of_view (State.lawView_setIncident _ i _)

end
end State.SecLaw

end Sys2Proof.Machine

namespace Sys2Proof.Machine

open Sys2Proof

namespace State.SecLaw

section
variable {L Q : Prop} {s t : State} {e : Ev} {i : SecNo}

/-- A section whose phase is untied takes any state by the clauses about the positions alone. -/
theorem setUntied {L' : Prop} (h : s.SecLaw L Q i) (hu : s.Untied i) (st : SecState) (r : SecReason)
    (hl : L' → st = .live → (s.sec i).ctl.position = .closed ∧ s.station.position = .closed)
    (hc : L' → st = .closing → s.station.position = .closed) : (s.setSec i st r).SecLaw L' True i :=
  (h.setSec st r hl hc).of_untied (by simpa [State.Untied, State.setSec, State.modCtl] using hu)

/-- From a state tied to no phase into one that is neither LIVE nor CLOSING. -/
theorem setUntiedDown {L' : Prop} (h : s.SecLaw L Q i) (hu : s.Untied i) (st : SecState) (r : SecReason)
    (hl : st ≠ .live) (hc : st ≠ .closing) : (s.setSec i st r).SecLaw L' True i :=
  h.setUntied hu st r (fun _ x => absurd x hl) fun _ x => absurd x hc

/-- A change of the former state, which is a lock (R17). -/
theorem modFormer (h : s.SecLaw L Q i) (f : SectionCtl → SectionCtl) (hs : (f (s.sec i).ctl).state = (s.sec i).ctl.state)
    (hp : (f (s.sec i).ctl).position = (s.sec i).ctl.position)
    (hf : ∀ st r, (f (s.sec i).ctl).former = some (st, r) → st = .lockedOut ∨ st = .isolated) :
    (s.modCtl i f).SecLaw L Q i := by
  refine ⟨h.active, ?_, ?_, ?_, ?_, ?_⟩
  · simpa [State.modCtl, hs, hp] using h.live
  · simpa [State.modCtl, hs] using h.closing
  · simpa [State.modCtl] using hf
  · simpa [State.modCtl, hs] using h.gating
  · simpa [State.modCtl, hs] using h.testing

end
end State.SecLaw

theorem State.Untied.of_view {s t : State} {i : SecNo} (h : s.Untied i) (e : t.lawView i = s.lawView i) : t.Untied i := by
  simp only [State.lawView, Prod.mk.injEq] at e
  obtain ⟨_, _, _, _, eh, _⟩ := e
  simpa [State.Untied, eh] using h

/-- R8: a state in which a trip decision is acted on is neither WAITING nor TESTING. -/
theorem SecState.trippable_ne {st : SecState} (h : st.trippable = true) : st ≠ .waiting ∧ st ≠ .testing := by
  cases st with
  | waiting | testing => cases h
  | _ => exact ⟨nofun, nofun⟩

namespace State.SecLaw

section
variable {L Q : Prop} {e : Ev} {i : SecNo}

theorem tripDecision (h : e.s.SecLaw True True i) (x : Decision) : (e.tripDecision i x).s.SecLaw True True i := by
  unfold Ev.tripDecision
  dsimp only
  split
  · rename_i acted
    simp only [Bool.and_eq_true] at acted
    obtain ⟨_, trippable⟩ := acted
    obtain ⟨hw, ht⟩ := SecState.trippable_ne trippable
    have ordered (k : Option PendingOrder) : (((e.s.queueOrder (.sec i) .trip).assertLine i).setPending i k).lawView i =
        e.s.lawView i := by simp
    have tripped : (e.mod fun s => ((((s.queueOrder (.sec i) .trip).assertLine i).setPending i
        (some (s.order .trip .protection (some x.kind) true))).setSec i .tripping x.kind.reason)).s.SecLaw True True i :=
      (h.of_view (ordered _)).setUntiedDown ((h.untied hw ht).of_view (ordered _)) .tripping _ nofun nofun
    have recorded := tripped.recordTrip x.kind (some x.captured)
    exact ite (fun _ => recorded.retripped) fun _ => recorded.tripInReclaim
  · exact h

theorem trippedOpen (h : e.s.SecLaw L Q i) (k : Option TripKind) : (e.trippedOpen i k).s.SecLaw True True i :=
  ite (fun _ => h.tripConfirmed k) fun _ => closeThenCancel (e := e.mod _) (h.setDown .dead .stationOpen nofun nofun) _

/-- R9: a section TRIPPING returns to its former lock, or goes on from the confirmed trip. -/
theorem confirmTrip (h : e.s.SecLaw True True i) (hs : (e.s.sec i).ctl.state = .tripping) :
    (e.confirmTrip i).s.SecLaw True True i := by
  have same : ((e.s.releaseLine i).setPending i none).lawView i = e.s.lawView i := by simp
  have untied : e.s.Untied i := h.untied (by rw [hs]; nofun) (by rw [hs]; nofun)
  unfold Ev.confirmTrip
  extract_lets c released
  have released : released.s.SecLaw True True i := h.mod same
  split
  · split
    · rename_i st r hf
      have lock := h.former st r hf
      have locked := (h.of_view same).setUntiedDown (L' := True) (untied.of_view same) st r
        (by rcases lock with rfl | rfl <;> nofun) (by rcases lock with rfl | rfl <;> nofun)
      exact of_view (locked.modFormer (fun c => { c with former := none }) rfl rfl nofun) (Ev.lawView_closeIncident _ i i _)
    · exact released
  · exact released.trippedOpen _

theorem localTrip (h : e.s.SecLaw L True i) : (e.localTrip i).s.SecLaw True True i := by
  have cleared : (e.mod fun s => s.setPending i none).s.SecLaw L True i := h.mod (by simp)
  have ended := ite (c := (e.s.sec i).ctl.reclosing = true) (fun _ => cleared.retripped) fun _ => cleared.tripInReclaim
  exact (ended.recordTrip _ _).trippedOpen _

theorem confirmClose (h : e.s.SecLaw True True i) (hs : (e.s.sec i).ctl.state = .closing)
    (hp : (e.s.sec i).ctl.position = .closed) : (e.confirmClose i).s.SecLaw True True i := by
  have untied : e.s.Untied i := h.untied (by rw [hs]; nofun) (by rw [hs]; nofun)
  have live (r : SecReason) : (e.mod fun s => (s.setSec i .live r).setPending i none).s.SecLaw True True i :=
    (h.setUntied untied .live r (fun _ _ => ⟨hp, h.closing trivial hs⟩) fun _ => nofun).of_view (by simp)
  exact ite (fun _ => (live _).closeConfirmed) fun _ => live _

theorem closeFails (h : e.s.SecLaw True True i) (hs : (e.s.sec i).ctl.state = .closing) :
    (e.closeFails i).s.SecLaw True True i := by
  have untied : e.s.Untied i := h.untied (by rw [hs]; nofun) (by rw [hs]; nofun)
  have same : ((e.s.setPending i none).withdraw (.sec i)).lawView i = e.s.lawView i := by simp
  have withdrawn : (e.mod fun s => (s.setPending i none).withdraw (.sec i)).s.SecLaw True True i := h.mod same
  exact ite (fun _ => withdrawn.shotFailed _) fun _ =>
    withdrawn.setUntiedDown (untied.of_view same) .dead .closeFailed nofun nofun

theorem leaveSequence (h : e.s.SecLaw L Q i) (o : IncOutcome) : (e.leaveSequence i o).s.SecLaw L True i :=
  ite (fun idle => h.of_untied ⟨by rw [idle]; nofun, by rw [idle]; nofun⟩) fun _ => h.closeThenCancel o

theorem confirmOpen (h : e.s.SecLaw True True i) (hs : (e.s.sec i).ctl.state = .opening) :
    (e.mod fun s => s.confirmOpen i).s.SecLaw True True i := by
  have untied : e.s.Untied i := h.untied (by rw [hs]; nofun) (by rw [hs]; nofun)
  have same (c : Bool) : ((if c then e.s.releaseLine i else e.s).setPending i none).lawView i = e.s.lawView i := by
    cases c <;> simp
  exact (h.of_view (same _)).setUntiedDown (untied.of_view (same _)) .dead .commandedOpen nofun nofun

theorem openFails (h : e.s.SecLaw True True i) (hs : (e.s.sec i).ctl.state = .opening) :
    (e.openFails i).s.SecLaw True True i := by
  have untied : e.s.Untied i := h.untied (by rw [hs]; nofun) (by rw [hs]; nofun)
  have same (c : Bool) : ((if c then e.s.releaseLine i else e.s).setPending i none).lawView i = e.s.lawView i := by
    cases c <;> simp
  refine of_view ((h.of_view (same _)).setUntied (L' := True) (untied.of_view (same _)) _ .openFailed (fun _ hl => ?_)
    fun _ hc => ?_) (Ev.lawView_recordClosed _ i _ _ _ _)
  · rw [State.position_of_view (same _), State.stationPosition_of_view (same _)]
    by_cases both : e.s.bothClosed i = true
    · simpa [State.bothClosed] using both
    · rw [if_neg both] at hl
      cases hl
  · split at hc <;> cases hc

theorem breakerLockout (h : e.s.SecLaw L Q i) (c : FailCause) : (e.breakerLockout i c).s.SecLaw True True i := by
  have locked : (e.mod fun s => ((s.setSec i .lockedOut .breakerFailure).setPending i none).modCtl i fun c =>
      { c with former := none }).s.SecLaw True False i := by
    have cleared : ((e.s.setSec i .lockedOut .breakerFailure).setPending i none).SecLaw True False i :=
      (h.setDown .lockedOut .breakerFailure nofun nofun).of_view (State.lawView_setPending _ i none)
    exact cleared.modFormer (fun c => { c with former := none }) rfl rfl nofun
  exact (locked.closeThenCancel _).recordClosed _ _ _ _

/-- R17: a close against lock keeps the lock as the former state. -/
theorem closeAgainstLock (h : e.s.SecLaw True True i)
    (hs : (e.s.sec i).ctl.state = .lockedOut ∨ (e.s.sec i).ctl.state = .isolated) :
    (e.closeAgainstLock i).s.SecLaw True True i := by
  have untied : e.s.Untied i := h.untied (by rcases hs with hs | hs <;> rw [hs] <;> nofun)
    (by rcases hs with hs | hs <;> rw [hs] <;> nofun)
  have kept : (e.s.modCtl i fun c => { c with former := some (c.state, c.reason) }).SecLaw True True i :=
    h.modFormer _ rfl rfl fun st r x => by
      cases x
      exact hs
  have still : (e.s.modCtl i fun c => { c with former := some (c.state, c.reason) }).Untied i := by
    simpa [State.Untied, State.modCtl] using untied
  have ordered (s : State) (k : Option PendingOrder) :
      (((s.queueOrder (.sec i) .trip).assertLine i).setPending i k).lawView i = s.lawView i := by simp
  refine ite (fun _ => h) fun _ => openCommanded (e := e.mod _) ?_
  exact (kept.of_view (ordered _ _)).setUntiedDown (still.of_view (ordered _ _)) .tripping .commanded nofun nofun

theorem failedLockedOut (h : e.s.SecLaw True True i) (hs : (e.s.sec i).ctl.state = .lockedOut) :
    (e.failedLockedOut i).s.SecLaw True True i := by
  have untied : e.s.Untied i := h.untied (by rw [hs]; nofun) (by rw [hs]; nofun)
  exact ite (fun _ => h) fun _ =>
    recordClosed (e := e.mod _) (h.setUntiedDown untied .lockedOut .breakerFailure nofun nofun) _ _ _ _

theorem closedInSequence (h : e.s.SecLaw L Q i) (hp : (e.s.sec i).ctl.position = .closed) :
    (e.closedInSequence i).s.SecLaw True True i := by
  refine closeThenCancel (e := e.mod _) (Q := False) (h.setSec _ _ (fun _ hl => ⟨hp, ?_⟩) fun _ hc => ?_) .cancelled
  · by_contra open_
    rw [if_neg open_] at hl
    cases hl
  · split at hc <;> cases hc

end

/-! Protection and the source selector -/

section
variable {e : Ev} {i : SecNo}

theorem wouldTrip (h : e.s.SecLaw True True i) (x : Decision) : (e.wouldTrip i x).s.SecLaw True True i :=
  ite (fun _ => (h.mod (State.lawView_modFeed _ i _)).recordClosed _ _ _ _) fun _ => h

theorem giveDecision (h : e.s.SecLaw True True i) (x : Decision) : (e.giveDecision i x).s.SecLaw True True i :=
  ite (fun _ => h.wouldTrip x) fun _ => h.tripDecision x

theorem checkUnexplained (h : e.s.SecLaw True True i) (current : Int) (saturated : Bool) :
    (e.checkUnexplained i current saturated).s.SecLaw True True i := by
  have run (f : Feeder → Feeder) : (e.mod fun s => s.modFeed i f).s.SecLaw True True i := h.mod (State.lawView_modFeed _ i _)
  exact ite (fun _ => run _) fun _ => ite (fun _ =>
    recordClosed ((run _).mod (State.lawView_modFeed _ i _)) _ _ _ _) fun _ => run _

theorem checkReverse (h : e.s.SecLaw True True i) (current : Int) (saturated : Bool) (credit : Nat) :
    (e.checkReverse i current saturated credit).s.SecLaw True True i := by
  have run (f : Feeder → Feeder) : (e.mod fun s => s.modFeed i f).s.SecLaw True True i := h.mod (State.lawView_modFeed _ i _)
  exact ite (fun _ => run _) fun _ => ite (fun _ => run _) fun _ => ite (fun _ => h) fun _ => ite (fun _ =>
    recordClosed ((run _).mod (State.lawView_modFeed _ i _)) _ _ _ _) fun _ => run _

theorem tellCrossing (h : e.s.SecLaw True True i) (before : Nat) : (e.tellCrossing i before).s.SecLaw True True i :=
  ite (fun _ => h) fun _ => (h.mod (State.lawView_modFeed _ i _)).reevaluate _

theorem decided {d : Ev} (h : d.s.SecLaw True True i) (k : Option TripKind) (x : TripKind → Decision) :
    (match k with | none => d | some k => d.giveDecision i (x k)).s.SecLaw True True i := by
  cases k with
  | none => exact h
  | some k => exact h.giveDecision _

theorem compute (h : e.s.SecLaw True True i) (tick : Tick) (raw : Int) : (e.compute i tick raw).s.SecLaw True True i := by
  unfold Ev.compute
  extract_lets f p v current saturated
  split
  · exact h.mod (State.lawView_modFeed _ i _)
  · generalize f.compute p tick current saturated v = computed
    obtain ⟨g, delta⟩ := computed
    have fed : (e.mod fun s => s.modFeed i fun _ => g).s.SecLaw True True i :=
      h.mod (f := fun s => s.modFeed i fun _ => g) (State.lawView_modFeed _ i _)
    exact (checkUnexplained (decided (fed.tellCrossing f.h) _ fun k =>
      ⟨k, ⟨some current, g.rise current delta, g.h, saturated⟩⟩) _ _).checkReverse _ _ _

theorem setSelector (h : e.s.SecLaw True True i) (st : SelState) : (e.setSelector i st).s.SecLaw True True i := by
  unfold Ev.setSelector
  split
  · exact h
  · extract_lets turned judged
    have turned : turned.s.SecLaw True True i := h.mod (by simp)
    have lawful : judged.s.SecLaw True True i := by
      refine reevaluate ?_ .source
      exact turned
    have counted (f : Selector → Selector) : (judged.mod fun s => s.modSel i f).s.SecLaw True True i :=
      lawful.mod (State.lawView_modSel _ i f)
    exact ite (fun _ => ((counted _).recordClosed _ _ _ _).mod (State.lawView_beginBlind _ i)) fun _ => lawful

theorem afterStale (h : e.s.SecLaw True True i) (r : SourceRole) : (e.afterStale i r).s.SecLaw True True i := by
  unfold Ev.afterStale
  dsimp only
  split
  · exact h.setSelector _
  · exact h.setSelector _
  · exact h

theorem afterSample (h : e.s.SecLaw True True i) (r : SourceRole) : (e.afterSample i r).s.SecLaw True True i := by
  unfold Ev.afterSample
  dsimp only
  split
  · split
    · exact h.setSelector _
    · exact h.setSelector _
    · exact h.setSelector _
    · exact h
  · exact h

theorem takeSample (h : e.s.SecLaw True True i) (r : SourceRole) (x : Tick × Int) :
    (e.takeSample i r x).s.SecLaw True True i := by
  have taken := afterSample (e := e.mod fun s => s.modSec i fun y => y.setSource r ((y.source r).take x.1 s.partTime))
    (h.mod (State.lawView_setSource _ i r _)) r
  exact ite (fun _ => taken.compute _ _) fun _ => taken

theorem blindDecision (h : e.s.SecLaw True True i) : (e.blindDecision i).s.SecLaw True True i :=
  ite (fun _ => h.giveDecision _) fun _ => h

theorem takeBlindExpiry (h : e.s.SecLaw True True i) : (e.takeBlindExpiry i).s.SecLaw True True i :=
  (h.mod (State.lawView_modSel _ i _)).blindDecision

theorem reloadSection (h : e.s.SecLaw True True i) (old : SectionEntry) : (e.reloadSection i old).s.SecLaw True True i := by
  have emptied : (e.mod fun s => s.modSec i fun x => x.setSource .secondary coldSource).s.SecLaw True True i :=
    h.mod (State.lawView_setSource _ i _ _)
  unfold Ev.reloadSection
  extract_lets new sourced x
  have sourced : sourced.s.SecLaw True True i :=
    ite (fun _ => emptied.afterStale _) fun _ => ite (fun _ => emptied) fun _ => h
  split
  · split
    · exact sourced
    · exact ite (fun _ => ite (fun _ => sourced.takeBlindExpiry) fun _ => sourced.mod (State.lawView_modSel _ i _)) fun _ =>
        sourced.mod (State.lawView_modSel _ i _)
  · exact sourced

end
end State.SecLaw

/-! ### A section by its number, active or not -/

namespace State.SectionLawful

section
variable {s : State} {e : Ev} {i : SecNo}

theorem mod (h : e.s.SectionLawful i) {f : State → State} (hf : (f e.s).lawView i = e.s.lawView i) :
    (e.mod f).s.SectionLawful i := h.of_view hf

theorem ite {c : Prop} [Decidable c] {e f : Ev} (h : c → e.s.SectionLawful i) (k : ¬c → f.s.SectionLawful i) :
    (if c then e else f).s.SectionLawful i := by
  split
  · exact h ‹_›
  · exact k ‹_›

/-- A section in any state but DEAD is active. -/
theorem secLaw_of_state (h : s.SectionLawful i) (hs : (s.sec i).ctl.state ≠ .dead) : s.SecLaw True True i :=
  h.secLaw (h.active_of_state hs)

theorem secLaw_of_phase (h : s.SectionLawful i) (hs : (s.sec i).rcl.phase ≠ .idle) : s.SecLaw True True i :=
  h.secLaw (h.active_of_phase hs)

theorem recordClosed (h : e.s.SectionLawful i) (k : IncKind) (obj : IncObject) (x : Option Detail) (c : Option Captured) :
    (e.recordClosed k obj x c).s.SectionLawful i := h.of_view (Ev.lawView_recordClosed e i k obj x c)

theorem reevaluate (h : e.s.SectionLawful i) (g : Gate) : (e.reevaluate i g).s.SectionLawful i := by
  by_cases gating : (e.s.sec i).rcl.phase = .gating
  · exact ((h.secLaw_of_phase (by rw [gating]; nofun)).reevaluate g).lawful
  · unfold Ev.reevaluate
    rw [if_neg gating]
    exact h

theorem modeActsOn (h : e.s.SectionLawful i) (m : Mode) : (e.modeActsOn m i).s.SectionLawful i := by
  by_cases idle : (e.s.sec i).rcl.phase = .idle
  · have same : e.modeActsOn m i = e := by cases m <;> simp [Ev.modeActsOn, idle]
    rw [same]
    exact h
  · exact ((h.secLaw_of_phase idle).modeActsOn m).lawful

/-- R90: an attachment to an incident of a section that is not active judges no gate. -/
theorem attach (h : e.s.SectionLawful i) (n v : Nat) (f : FaultCode) (located : Bool) :
    (e.attach i n v f located).s.SectionLawful i := by
  unfold Ev.attach
  split
  · exact h
  · extract_lets entry room listed ordered gated
    have h : listed.s.SectionLawful i := by
      have edits : e.Edits Part.Beside listed := by
        refine .ite (fun _ => Ev.Edits.refl.mod ?_) fun _ => Ev.Edits.refl.mod ?_
        · exact .modVehicle trivial (.modRecord trivial .refl _ _) _ _
        · exact .modRecord trivial .refl _ _
      exact h.of_view (edits.lawView_beside i)
    have h : ordered.s.SectionLawful i := h.of_view (State.lawView_requestPolesDown _ i _ _)
    exact of_view (ite (fun _ => h.reevaluate _) fun _ => h) (Ev.lawView_reportIncident _ i _ _)

theorem setSelector (h : e.s.SectionLawful i) (st : SelState) : (e.setSelector i st).s.SectionLawful i := by
  unfold Ev.setSelector
  split
  · exact h
  · extract_lets turned judged
    have turned : turned.s.SectionLawful i := h.mod (by simp)
    have lawful : judged.s.SectionLawful i := by
      refine reevaluate ?_ .source
      exact turned
    have counted (f : Selector → Selector) : (judged.mod fun s => s.modSel i f).s.SectionLawful i :=
      lawful.mod (State.lawView_modSel _ i f)
    exact ite (fun _ => ((counted _).recordClosed _ _ _ _).mod (State.lawView_beginBlind _ i)) fun _ => lawful

theorem staleExpiry (h : e.s.SectionLawful i) (r : SourceRole) : (e.staleExpiry i r).s.SectionLawful i := by
  have emptied : (e.mod fun s => s.modSec i fun x => x.setSource r coldSource).s.SectionLawful i :=
    h.mod (State.lawView_setSource _ i _ _)
  refine ite (fun _ => ?_) fun _ => h
  unfold Ev.afterStale
  dsimp only
  split
  · exact emptied.setSelector _
  · exact emptied.setSelector _
  · exact emptied

end
end State.SectionLawful

end Sys2Proof.Machine

namespace Sys2Proof.Machine

open Sys2Proof

/-! ### Commands, expiries and reports of one section -/

/-- The law without the clauses about the positions, while a position is changing. -/
structure State.Shaped (s : State) (i : SecNo) : Prop where
  former : ∀ st r, (s.sec i).ctl.former = some (st, r) → st = .lockedOut ∨ st = .isolated
  gating : (s.sec i).rcl.phase = .gating → (s.sec i).ctl.state = .waiting
  testing : (s.sec i).rcl.phase = .testing → (s.sec i).ctl.state = .testing
  inactive : (s.secEntry i).active = false → (s.sec i).ctl.state = .dead ∧ (s.sec i).rcl.phase = .idle

theorem State.SectionLawful.shaped {s : State} {i : SecNo} (h : s.SectionLawful i) : s.Shaped i :=
  ⟨h.former, h.gating, h.testing, h.inactive⟩

theorem State.Shaped.secLaw {s : State} {i : SecNo} (h : s.Shaped i) (hs : (s.sec i).ctl.state ≠ .dead) :
    s.SecLaw False True i :=
  ⟨by_contra fun ha => hs (h.inactive (Bool.eq_false_of_not_eq_true ha)).1, nofun, nofun, h.former, fun _ => h.gating,
    fun _ => h.testing⟩

/-- R4: a section neither LIVE nor CLOSING has nothing to do with the positions. -/
theorem State.Shaped.lawful {s : State} {i : SecNo} (h : s.Shaped i) (hl : (s.sec i).ctl.state ≠ .live)
    (hc : (s.sec i).ctl.state ≠ .closing) : s.SectionLawful i :=
  ⟨fun x => absurd x hl, fun x => absurd x hc, h.former, h.gating, h.testing, h.inactive⟩

/-- R1: the records of a section out of service, its position kept. -/
theorem State.sectionLawful_of_retired {s : State} {i : SecNo} (hs : (s.sec i).ctl.state = .dead)
    (hf : (s.sec i).ctl.former = none) (hp : (s.sec i).rcl.phase = .idle) : s.SectionLawful i where
  live x := by rw [hs] at x; cases x
  closing x := by rw [hs] at x; cases x
  former _ _ x := by rw [hf] at x; cases x
  gating x := by rw [hp] at x; cases x
  testing x := by rw [hp] at x; cases x
  inactive _ := ⟨hs, hp⟩

namespace State.SectionLawful

section
variable {e : Ev} {i : SecNo}

theorem sampleTelegram (h : e.s.SectionLawful i) (r : SourceRole) (x : Option (List (Tick × Int))) :
    (e.sampleTelegram i r x).s.SectionLawful i := by
  unfold Ev.sampleTelegram
  split
  · exact h
  · rename_i active
    have h := h.secLaw (by simpa using active)
    split
    · exact (h.mod (State.lawView_modFeed _ i _)).lawful
    split
    · exact h.lawful
    · exact SecLaw.lawful (List.foldlRecOn (motive := fun e : Ev => e.s.SecLaw True True i) _ _ h fun _ h _ _ => h.takeSample _ _)

theorem sectionClose (h : e.s.SectionLawful i) : (e.sectionClose i).1.s.SectionLawful i := by
  unfold Ev.sectionClose
  extract_lets r
  split
  · rename_i accepted
    split
    · rename_i allowed
      have judged : (e.s.secEntry i).active = true ∧ (e.s.sec i).ctl.state = .dead := by
        unfold r State.judgeClose at accepted
        grind
      obtain ⟨active, dead⟩ := judged
      have h := h.secLaw active
      have untied : e.s.Untied i := h.untied (by rw [dead]; nofun) (by rw [dead]; nofun)
      have same (p : Option PendingOrder) : ((e.s.queueOrder (.sec i) .close).setPending i p).lawView i = e.s.lawView i := by
        simp
      have closed : e.s.station.position = .closed := by
        simp only [State.closeAllowed, Bool.and_eq_true, beq_iff_eq] at allowed
        obtain ⟨⟨⟨_, closed⟩, _⟩, _⟩ := allowed
        exact closed
      exact SecLaw.lawful ((h.of_view (same _)).setUntied (untied.of_view (same _)) .closing .commandedClose
        (fun _ => nofun) fun _ _ => (State.stationPosition_of_view (same _)).trans closed)
    · exact h
  · exact h

theorem sectionOpen (h : e.s.SectionLawful i) (trip : Bool) : (e.sectionOpen i trip).1.s.SectionLawful i := by
  have active (judged : e.s.judgeOpen i true = .accepted) : (e.s.secEntry i).active = true := by
    by_contra ha
    rw [State.judgeOpen, if_pos (by simpa using ha)] at judged
    cases judged
  unfold Ev.sectionOpen
  generalize judged : e.s.judgeOpen i true = r
  cases r with
  | accepted =>
    have same (c : Bool) (k : OrderKind) (p : Option PendingOrder) :
        ((if c then (e.s.queueOrder (.sec i) k).assertLine i else e.s.queueOrder (.sec i) k).setPending i p).lawView i =
          e.s.lawView i := by cases c <;> simp
    have opened (k : OrderKind) (p : Option PendingOrder) := ((h.secLaw (active judged)).of_view (same trip k p)).setDown
      (L' := True) .opening (if trip then .commandedTrip else .commandedOpen) nofun nofun
    exact (SecLaw.leaveSequence (e := e.mod _) (opened _ _) .cancelled).lawful
  | done =>
    have dropped (hs : (e.s.sec i).ctl.state ≠ .dead) :=
      (SecLaw.closeThenCancel (e := e.mod fun s => s.setSec i .dead .commandedOpen) ((h.secLaw_of_state hs).setDown
        (L' := True) .dead .commandedOpen nofun nofun) .cancelled).lawful
    dsimp only
    split
    · rename_i waiting
      exact dropped (by rw [waiting]; nofun)
    · rename_i testing
      exact dropped (by rw [testing]; nofun)
    · exact h
  | _ => exact h

/-- R24: the state after a reset is LIVE only with both positions CLOSED. -/
theorem sectionReset (h : e.s.SectionLawful i) : (e.sectionReset i).1.s.SectionLawful i := by
  unfold Ev.sectionReset
  split
  · exact h
  split
  · rename_i locked
    have h := h.secLaw_of_state (by rw [locked]; nofun)
    have untied : e.s.Untied i := h.untied (by rw [locked]; nofun) (by rw [locked]; nofun)
    have same : (((e.s.releaseLine i).modRcl i fun r => { r with shots := 0 }).modCtl i fun c =>
        { c with incident := none }).lawView i = e.s.lawView i := by
      rw [State.lawView_setIncident, State.lawView_modRcl _ i rfl, State.lawView_releaseLine]
    have both : e.s.bothClosed i = true → (e.s.sec i).ctl.position = .closed ∧ e.s.station.position = .closed := by
      simp [State.bothClosed]
    refine SecLaw.lawful ((h.of_view same).setUntied (untied.of_view same) _ .reset (fun _ hl => ?_) fun _ hc => ?_)
    · rw [State.position_of_view same, State.stationPosition_of_view same]
      split at hl
      · rename_i closed
        exact both closed
      · cases hl
    · split at hc <;> cases hc
  · exact h

theorem sectionIsolate (h : e.s.SectionLawful i) (force : Bool) : (e.sectionIsolate i force).1.s.SectionLawful i := by
  unfold Ev.sectionIsolate
  split
  · exact h
  · rename_i checked
    simp only [Bool.or_eq_true, Bool.not_eq_true', bne_iff_ne, not_or, ne_eq, not_not] at checked
    obtain ⟨active, dead⟩ := checked
    have h' := h.secLaw (Bool.eq_true_of_not_eq_false active)
    have untied : e.s.Untied i := h'.untied (by rw [dead]; nofun) (by rw [dead]; nofun)
    split
    · exact h
    split
    · exact h
    · exact (h'.setUntiedDown untied .isolated _ nofun nofun).lawful

theorem sectionRelease (h : e.s.SectionLawful i) : (e.sectionRelease i).1.s.SectionLawful i := by
  unfold Ev.sectionRelease
  split
  · rename_i checked
    simp only [Bool.and_eq_true, beq_iff_eq] at checked
    obtain ⟨active, isolated⟩ := checked
    have h := h.secLaw active
    have untied : e.s.Untied i := h.untied (by rw [isolated]; nofun) (by rw [isolated]; nofun)
    exact (h.setUntiedDown untied .dead .released nofun nofun).lawful
  · exact h

/-- R1, R20, R173: an active DEAD section with both positions CLOSED becomes LIVE. -/
theorem setLive (h : e.s.SectionLawful i) (active : (e.s.secEntry i).active = true) (dead : (e.s.sec i).ctl.state = .dead)
    (hp : (e.s.sec i).ctl.position = .closed) (ht : e.s.station.position = .closed) (r : SecReason) :
    (e.mod fun s => s.setSec i .live r).s.SectionLawful i := by
  have h := h.secLaw active
  have untied : e.s.Untied i := h.untied (by rw [dead]; nofun) (by rw [dead]; nofun)
  exact (h.setUntied untied .live r (fun _ _ => ⟨hp, ht⟩) fun _ => nofun).lawful

theorem derive (h : e.s.SectionLawful i) : (e.derive i).s.SectionLawful i := by
  unfold Ev.derive
  split
  · rename_i checked
    simp only [Bool.and_eq_true, beq_iff_eq, State.bothClosed] at checked
    obtain ⟨⟨active, dead⟩, hp, ht⟩ := checked
    exact h.setLive active dead hp ht _
  · exact h

theorem stationClosed (h : e.s.SectionLawful i) (ht : e.s.station.position = .closed) :
    (e.stationClosed i).s.SectionLawful i := by
  unfold Ev.stationClosed
  split
  · rename_i checked
    simp only [Bool.and_eq_true, beq_iff_eq] at checked
    obtain ⟨⟨active, dead⟩, hp⟩ := checked
    exact h.setLive active dead hp ht _
  · exact h

theorem blindDecision (h : e.s.SectionLawful i) : (e.blindDecision i).s.SectionLawful i := by
  by_cases trippable : (e.s.sec i).ctl.state.trippable = true
  · exact (h.secLaw_of_state (by intro dead; rw [dead] at trippable; cases trippable)).blindDecision.lawful
  · unfold Ev.blindDecision
    rw [if_neg trippable]
    exact h

theorem takeBlindExpiry (h : e.s.SectionLawful i) : (e.takeBlindExpiry i).s.SectionLawful i :=
  (h.mod (State.lawView_modSel _ i _)).blindDecision

theorem blindExpiry (h : e.s.SectionLawful i) : (e.blindExpiry i).s.SectionLawful i :=
  ite (fun _ => h.takeBlindExpiry) fun _ => h

theorem closeConfirmTimeExpiry (h : e.s.SectionLawful i) : (e.closeConfirmTimeExpiry i).s.SectionLawful i := by
  refine ite (fun due => ?_) fun _ => h
  simp only [State.sectionDue, Bool.and_eq_true, beq_iff_eq] at due
  exact ((h.secLaw_of_state (by rw [due.1]; nofun)).closeFails due.1).lawful

theorem sectionOpenExpiry (h : e.s.SectionLawful i) : (e.sectionOpenExpiry i).s.SectionLawful i := by
  refine ite (fun due => ?_) fun _ => h
  simp only [State.sectionDue, Bool.and_eq_true, beq_iff_eq] at due
  exact ((h.secLaw_of_state (by rw [due.1]; nofun)).openFails due.1).lawful

theorem deadTimeExpiry (h : e.s.SectionLawful i) : (e.deadTimeExpiry i).s.SectionLawful i :=
  ite (fun _ => (h.mod (State.lawView_modRcl _ i rfl)).reevaluate _) fun _ => h

theorem holdExpiry (h : e.s.SectionLawful i) : (e.holdExpiry i).s.SectionLawful i := by
  have overdue : (e.mod fun s => s.modRcl i fun r => { r with hold := none, holdOverdue := true }).s.SectionLawful i :=
    h.mod (State.lawView_modRcl _ i rfl)
  refine ite (fun _ => ite (fun failing => ?_) fun _ => overdue) fun _ => h
  exact ((overdue.secLaw_of_phase (by rw [failing.1]; nofun)).lockout _).lawful

theorem lineTestExpiry (h : e.s.SectionLawful i) : (e.lineTestExpiry i).s.SectionLawful i :=
  ite (fun due => ((h.secLaw_of_phase (by rw [due.1]; nofun)).shotFailed _).lawful) fun _ => h

theorem reclaimExpiry (h : e.s.SectionLawful i) : (e.reclaimExpiry i).s.SectionLawful i :=
  ite (fun due => (h.secLaw_of_phase (by rw [due.1]; nofun)).reclaimOver.lawful) fun _ => h

/-- R65: what a warm restart does to the phase. -/
theorem warm_phase (r : Reclose) : r.warm.phase ≠ .gating ∧ r.warm.phase ≠ .testing ∧ (r.phase = .idle → r.warm.phase = .idle) := by
  unfold Reclose.warm
  dsimp only
  split
  · exact ⟨nofun, nofun, fun _ => rfl⟩
  · rename_i tied
    exact ⟨fun x => tied (.inl x), fun x => tied (.inr x), id⟩

/-- R1, R65: a section whose former state and sequence are dropped. -/
theorem warmed {s t : State} (h : s.SectionLawful i) (ht : t.tables = s.tables ∧ t.station = s.station)
    (hs : (t.sec i).ctl.state = (s.sec i).ctl.state) (hp : (t.sec i).ctl.position = (s.sec i).ctl.position)
    (hf : (t.sec i).ctl.former = none) (hr : (t.sec i).rcl = (s.sec i).rcl.warm) : t.SectionLawful i := by
  obtain ⟨gating, testing, idle⟩ := warm_phase (s.sec i).rcl
  refine ⟨?_, ?_, ?_, ?_, ?_, ?_⟩
  · rw [hs, hp, ht.2]
    exact h.live
  · rw [hs, ht.2]
    exact h.closing
  · rw [hf]
    nofun
  · rw [hr]
    exact fun x => absurd x gating
  · rw [hr]
    exact fun x => absurd x testing
  · rw [hs, hr, State.secEntry, ht.1]
    exact fun x => ⟨(h.inactive x).1, idle (h.inactive x).2⟩

/-- R180: a section at a warm restart. -/
theorem warmSection (h : e.s.SectionLawful i) : (e.warmSection i).s.SectionLawful i := by
  unfold Ev.warmSection
  extract_lets st locked
  have locked : locked.s.SectionLawful i := by
    refine ite (fun hs => ?_) fun _ => h
    refine ((h.secLaw_of_state ?_).lockout _).lawful
    rcases hs with hs | hs <;> rw [show (e.s.sec i).ctl.state = _ from hs] <;> nofun
  refine warmed locked ?_ ?_ ?_ ?_ ?_
  all_goals rw [Ev.mod_s]; dsimp only; split <;> simp [State.startBlind, State.beginBlind, State.modSel]

end
end State.SectionLawful

end Sys2Proof.Machine

namespace Sys2Proof.Machine

open Sys2Proof

/-! ### All sections -/

/-- R4's law for every section. -/
def State.AllLawful (s : State) : Prop := ∀ i, s.SectionLawful i

theorem State.AllLawful.of_view {s t : State} (h : s.AllLawful) (e : ∀ i, t.lawView i = s.lawView i) : t.AllLawful :=
  fun i => (h i).of_view (e i)

/-- What goes past the sections, the station and the tables goes past the law. -/
theorem State.Edits.allLawful {T : Part → Prop} {s t : State} (e : s.Edits T t) (h : s.AllLawful) (h1 : ∀ i, ¬T (.sec i))
    (h2 : ¬T .station) (h3 : ¬T .tables) (h4 : ¬T .whole) : t.AllLawful := h.of_view fun i => e.lawView (h1 i) h2 h3 h4

/-- An operation of one section leaves the others as they are. -/
theorem Ev.Edits.lawView_of_ne {d e : Ev} {i j : SecNo} (h : d.Edits (Part.OfSec i) e) (hj : j ≠ i) :
    e.s.lawView j = d.s.lawView j := h.state.lawView hj id id id

theorem State.AllLawful.of_sec {d e : Ev} {i : SecNo} (h : d.s.AllLawful) (edits : d.Edits (Part.OfSec i) e)
    (own : e.s.SectionLawful i) : e.s.AllLawful := by
  intro j
  by_cases hj : j = i
  · subst hj
    exact own
  · exact (h j).of_view (edits.lawView_of_ne hj)

/-- What each section has before its turn, `P`, and after it, `Q`, each kept at the turns of the others. -/
theorem Ev.forSecs_turn {P Q : State → SecNo → Prop} {e : Ev} {f : Ev → SecNo → Ev} (edits : ∀ (e : Ev) i, e.Edits (Part.OfSec i) (f e i))
    (hP : ∀ s t j, t.lawView j = s.lawView j → P s j → P t j) (hQ : ∀ s t j, t.lawView j = s.lawView j → Q s j → Q t j)
    (does : ∀ (e : Ev) i, P e.s i → Q (f e i).s i) (h : ∀ i, P e.s i) (i : SecNo) : Q (e.forSecs f).s i := by
  have all : ∀ (l : List SecNo) (e : Ev), l.Nodup → (∀ j ∈ l, P e.s j) → (∀ j, j ∉ l → Q e.s j) → ∀ j, Q (l.foldl f e).s j := by
    intro l
    induction l with
    | nil => exact fun e _ _ after j => after j List.not_mem_nil
    | cons k l ih =>
      intro e nodup before after
      obtain ⟨fresh, nodup⟩ := List.nodup_cons.mp nodup
      refine ih _ nodup (fun j hj => ?_) fun j hj => ?_
      · exact hP _ _ _ ((edits e k).lawView_of_ne (fun x => fresh (x ▸ hj))) (before j (List.mem_cons_of_mem _ hj))
      · by_cases hk : j = k
        · subst hk
          exact does e j (before j List.mem_cons_self)
        · exact hQ _ _ _ ((edits e k).lawView_of_ne hk) (after j (by simp [hk, hj]))
  exact all _ e (List.nodup_finRange 8) (fun j _ => h j) (fun j hj => absurd (List.mem_finRange j) hj) i

/-- An operation made for each section. -/
theorem Ev.forSecs_lawful {e : Ev} (h : e.s.AllLawful) {f : Ev → SecNo → Ev} (edits : ∀ (e : Ev) i, e.Edits (Part.OfSec i) (f e i))
    (own : ∀ (e : Ev) i, e.s.SectionLawful i → (f e i).s.SectionLawful i) : (e.forSecs f).s.AllLawful :=
  Ev.forSecs_turn (Q := State.SectionLawful) edits (fun _ _ _ x k => k.of_view x) (fun _ _ _ x k => k.of_view x) own h

namespace State.AllLawful

section
variable {e : Ev}

theorem ite {c : Prop} [Decidable c] {e f : Ev} (h : c → e.s.AllLawful) (k : ¬c → f.s.AllLawful) :
    (if c then e else f).s.AllLawful := by
  split
  · exact h ‹_›
  · exact k ‹_›

theorem edits {T : Part → Prop} {d e : Ev} (h : d.s.AllLawful) (k : d.Edits T e) (h1 : ∀ i, ¬T (.sec i)) (h2 : ¬T .station)
    (h3 : ¬T .tables) (h4 : ¬T .whole) : e.s.AllLawful := k.state.allLawful h h1 h2 h3 h4

/-- What vehicles and points write. -/
theorem traffic {d e : Ev} (h : d.s.AllLawful) (k : d.Edits Part.OfTraffic e) : e.s.AllLawful :=
  h.edits k (fun _ => id) id id id

theorem reevaluateAll (h : e.s.AllLawful) (g : Gate) : (e.forSecs fun e i => e.reevaluate i g).s.AllLawful :=
  Ev.forSecs_lawful h (fun _ _ => Ev.Edits.refl.reevaluate le_rfl g) fun _ _ k => k.reevaluate g

/-! Vehicles -/

theorem gateNotice (h : e.s.AllLawful) (v : Nat) : (e.gateNotice v).s.AllLawful :=
  Ev.forSecs_lawful h (fun _ _ => Ev.Edits.refl.reevaluateIf le_rfl _ _) fun _ _ k => .ite (fun _ => k.reevaluate _) fun _ => k

theorem lateAttach (h : e.s.AllLawful) (v : Nat) (f : Option FaultCode) : (e.lateAttach v f).s.AllLawful := by
  refine Ev.forSecs_lawful h (fun d i => ?_) fun d i k => ?_
  · refine List.foldlRecOn (motive := fun e : Ev => d.Edits (Part.OfSec i) e) _ _ .refl fun e k r _ => ?_
    split
    · exact k
    · split
      · split
        · exact k
        · exact k.attach le_rfl _ _ _ _
      · exact k
  · refine List.foldlRecOn (motive := fun e : Ev => e.s.SectionLawful i) _ _ k fun e k r _ => ?_
    split
    · exact k
    · split
      · split
        · exact k
        · exact k.attach _ _ _ _
      · exact k

theorem incidentNotice (h : e.s.AllLawful) (was v : Vehicle) (admits : Bool) : (e.incidentNotice was v admits).s.AllLawful := by
  unfold Ev.incidentNotice
  dsimp only
  split
  · exact ite (fun _ => h.lateAttach _ _) fun _ => h
  · split
    · split
      · exact h
      · exact h.lateAttach _ _
    · exact h

theorem handOn (h : e.s.AllLawful) (was v : Vehicle) (admits : Bool) : (e.handOn was v admits).s.AllLawful := by
  unfold Ev.handOn
  extract_lets moved faults told obstructed gated
  have told : told.s.AllLawful := h.traffic (.ite (fun _ => Ev.Edits.refl.vehicleReport _) fun _ => .refl)
  have obstructed : obstructed.s.AllLawful := told.traffic (Ev.Edits.refl.obstructionNotices le_rfl _ _ _)
  have gated : gated.s.AllLawful := ite (fun _ => obstructed.gateNotice _) fun _ => obstructed
  exact gated.incidentNotice _ _ _

theorem statusInto (h : e.s.AllLawful) (was : Vehicle) (st : VehicleStatus) (admits : Bool) :
    (e.statusInto was st admits).s.AllLawful := by
  have taken (v : Vehicle) (f : VehicleTable → VehicleTable) : (e.mod fun s => (s.addVehicle v).modVehicles f).s.AllLawful :=
    h.traffic (Ev.Edits.refl.mod (.modVehicles trivial (.modVehicles trivial .refl _) f))
  exact (taken _ _).handOn _ _ _

theorem createVehicle (h : e.s.AllLawful) (st : VehicleStatus) : (e.createVehicle st).s.AllLawful :=
  ite (fun _ => h.statusInto _ _ _) fun _ => h.statusInto _ _ _

theorem vehicleStatus (h : e.s.AllLawful) (st : Option VehicleStatus) : (e.vehicleStatus st).s.AllLawful := by
  cases st with
  | none => exact h.traffic (Ev.Edits.refl.vehicles le_rfl _)
  | some st =>
    change (e.takeStatus st).s.AllLawful
    unfold Ev.takeStatus
    split
    · exact h.traffic (Ev.Edits.refl.vehicles le_rfl _)
    split
    · exact h.statusInto _ _ _
    split
    · exact h.createVehicle _
    split
    · exact h.traffic (Ev.Edits.refl.tableFull le_rfl _)
    · exact (h.traffic ((Ev.Edits.refl.removed le_rfl _ _).vehicleReport _)).createVehicle _

theorem windowExpiry (h : e.s.AllLawful) (n : Nat) : (e.windowExpiry n).s.AllLawful := by
  refine ite (fun _ => ?_) fun _ => h
  unfold Ev.windowClosed
  split
  · exact h
  · have held (f : Incident → Incident) : (e.mod fun s => s.modRecord n f).s.AllLawful :=
      h.edits (T := (· = .incidents)) (Ev.Edits.refl.mod (.modRecord (T := (· = .incidents)) rfl .refl _ _)) (fun _ => nofun) nofun nofun nofun
    refine of_view ?_ fun i => Ev.lawView_reportIncident _ i _ _
    split
    · exact ite (fun _ => (held _).of_sec (Ev.Edits.refl.reevaluate le_rfl _) ((held _ _).reevaluate _)) fun _ => held _
    · exact held _

end
end State.AllLawful

/-! The station -/

theorem State.lawView_modStation {s : State} {f : Station → Station} (h : (f s.station).position = s.station.position)
    (i : SecNo) : (s.modStation f).lawView i = s.lawView i := by
  simp [State.lawView, State.secEntry, State.modStation, State.sec, h]

section
variable (s : State) (e : Ev) (i : SecNo)

@[simp] theorem State.lawView_setStation (st : StState) (r : StReason) : (s.setStation st r).lawView i = s.lawView i :=
  State.lawView_modStation rfl i

@[simp] theorem State.lawView_setStationPending (p : Option PendingOrder) : (s.setStationPending p).lawView i = s.lawView i :=
  State.lawView_modStation rfl i

@[simp] theorem State.lawView_releaseStationLine : s.releaseStationLine.lawView i = s.lawView i := State.lawView_modStation rfl i

@[simp] theorem State.lawView_assertStationLine : s.assertStationLine.lawView i = s.lawView i := by
  rcases s.assertStationLine_cases with ⟨_, e⟩ | ⟨_, e⟩ <;> rw [e]
  exact State.lawView_modStation rfl i

@[simp] theorem Ev.lawView_stationFails : e.stationFails.s.lawView i = e.s.lawView i := by simp [Ev.stationFails]

@[simp] theorem Ev.lawView_stationCloseFails : e.stationCloseFails.s.lawView i = e.s.lawView i := by simp [Ev.stationCloseFails]

@[simp] theorem Ev.lawView_stationConfirmed : e.stationConfirmed.s.lawView i = e.s.lawView i := by
  unfold Ev.stationConfirmed
  dsimp only [Ev.mod_s]
  split <;> simp

/-- R19: what a station report does besides the position. -/
theorem Ev.lawView_judgeStationReport (st : StState) (r : Report) : (e.judgeStationReport st r).s.lawView i = e.s.lawView i := by
  unfold Ev.judgeStationReport
  split <;> simp

end

theorem State.Shaped.of_view {s t : State} {i : SecNo} (h : s.Shaped i) (e : t.lawView i = s.lawView i) : t.Shaped i := by
  simp only [State.lawView, Prod.mk.injEq] at e
  obtain ⟨ea, es, _, ef, eh, _⟩ := e
  exact ⟨by rw [ef]; exact h.former, by rw [eh, es]; exact h.gating, by rw [eh, es]; exact h.testing,
    by rw [ea, es, eh]; exact h.inactive⟩

/-- R20: a section at the station's opening. -/
theorem State.Shaped.stationOpened {e : Ev} {i : SecNo} (h : e.s.Shaped i) : (e.stationOpened i).s.SectionLawful i := by
  unfold Ev.stationOpened
  extract_lets c
  split
  · rename_i opens
    have law := h.secLaw (by intro dead; rw [show c.state = _ from dead] at opens; cases opens)
    have released (b : Bool) : (if b then e.s.releaseLine i else e.s).SecLaw False True i := by
      cases b
      · exact law
      · exact law.of_view (State.lawView_releaseLine _ i)
    have opened (b : Bool) : ((((if b then e.s.releaseLine i else e.s).setSec i .dead .stationOpen).setPending i none).withdraw
        (.sec i)).SecLaw True False i := ((released b).setDown .dead .stationOpen nofun nofun).of_view (by simp)
    exact (State.SecLaw.closeThenCancel (e := e.mod _) (opened _) .stationOpen).lawful
  · rename_i stays
    refine h.lawful ?_ ?_ <;> intro x <;> rw [show c.state = _ from x] at stays <;> exact stays rfl

namespace State.AllLawful

section
variable {e : Ev}

/-- R69: a change of the station's state has every GATING section judged anew. -/
theorem withStation {f : Ev → Ev} (h : (f e).s.AllLawful) : (e.withStation f).s.AllLawful :=
  ite (fun _ => h) fun _ => h.reevaluateAll _

/-- R20: the station position changes, with its effects on the sections. -/
theorem stationPosition (h : e.s.AllLawful) {p : Position} (hp : p ≠ .unknown) : (e.stationPosition p).s.AllLawful := by
  unfold Ev.stationPosition
  extract_lets moved
  split
  · rename_i same
    exact h.of_view fun i => State.lawView_modStation same.symm i
  cases p with
  | unknown => exact absurd rfl hp
  | opened =>
    exact Ev.forSecs_turn (e := moved) (P := State.Shaped) (Q := State.SectionLawful)
      (fun _ _ => Ev.Edits.refl.stationOpened le_rfl) (fun _ _ _ x k => k.of_view x) (fun _ _ _ x k => k.of_view x)
      (fun _ _ k => k.stationOpened) fun i => ⟨(h i).former, (h i).gating, (h i).testing, (h i).inactive⟩
  | closed =>
    refine Ev.forSecs_turn (e := moved) (P := fun s i => s.SectionLawful i ∧ s.station.position = .closed)
      (Q := State.SectionLawful) (fun _ _ => Ev.Edits.refl.stationClosed le_rfl) (fun _ _ _ x k => ⟨k.1.of_view x, ?_⟩)
      (fun _ _ _ x k => k.of_view x) (fun _ _ k => k.1.stationClosed k.2) fun i => ⟨?_, rfl⟩
    · exact (State.stationPosition_of_view x).trans k.2
    · have h := h i
      exact ⟨fun x => ⟨(h.live x).1, rfl⟩, fun _ => rfl, h.former, h.gating, h.testing, h.inactive⟩

theorem stationReport (h : e.s.AllLawful) (r : Report) : (e.stationReport r).s.AllLawful := by
  refine withStation (of_view ?_ fun i => Ev.lawView_judgeStationReport _ i _ _)
  cases r with
  | opened | trippedLocal => exact h.stationPosition nofun
  | closed => exact ite (fun _ => h) fun _ => h.stationPosition nofun
  | failed => exact h

/-- R21, R22: a station operation that leaves the positions. -/
theorem withStationView (h : e.s.AllLawful) {f : Ev → Ev} (hf : ∀ i, (f e).s.lawView i = e.s.lawView i) :
    (e.withStation f).s.AllLawful := withStation (h.of_view hf)

theorem requestBackup (h : e.s.AllLawful) : e.requestBackup.s.AllLawful := by
  refine ite (fun _ => h) fun _ => h.withStationView fun i => ?_
  dsimp only [Ev.mod_s]
  split <;> simp

theorem stationClose (h : e.s.AllLawful) : e.stationClose.1.s.AllLawful := by
  unfold Ev.stationClose
  dsimp only
  split
  · exact h.withStationView fun i => by simp
  · exact h

theorem stationOpen (h : e.s.AllLawful) (trip : Bool) : (e.stationOpen trip).1.s.AllLawful := by
  unfold Ev.stationOpen
  dsimp only
  split
  · refine h.withStationView fun i => ?_
    cases trip <;> simp
  · exact h

theorem stationReset (h : e.s.AllLawful) : e.stationReset.1.s.AllLawful := by
  unfold Ev.stationReset
  split
  · exact h.withStationView fun i => by simp
  · exact h

theorem stationCloseExpiry (h : e.s.AllLawful) : e.stationCloseExpiry.s.AllLawful :=
  ite (fun _ => h.withStationView fun i => by simp) fun _ => h

theorem stationOpenExpiry (h : e.s.AllLawful) : e.stationOpenExpiry.s.AllLawful := by
  refine ite (fun _ => h.withStationView fun i => ?_) fun _ => h
  rw [Ev.lawView_recordClosed]
  dsimp only [Ev.mod_s]
  split <;> simp

theorem backupTripExpiry (h : e.s.AllLawful) : e.backupTripExpiry.s.AllLawful :=
  ite (fun _ => h.withStationView fun i => by simp) fun _ => h

/-! The section controller -/

theorem breakerFailure (h : e.s.AllLawful) {i : SecNo} (active : (e.s.secEntry i).active = true) (c : FailCause) :
    (e.breakerFailure i c).s.AllLawful := by
  unfold Ev.breakerFailure
  extract_lets asserted locked
  have lined : e.Edits (Part.OfSec i) asserted :=
    .ite (fun _ => Ev.Edits.refl.mod (.assertLine (i := i) rfl .refl)) fun _ => .refl
  have view : asserted.s.lawView i = e.s.lawView i := by
    unfold asserted
    split
    · exact State.lawView_assertLine _ i
    · rfl
  have failed : locked.s.AllLawful :=
    (h.of_sec lined ((h i).of_view view)).of_sec (Ev.Edits.refl.breakerLockout le_rfl c)
      ((((h i).secLaw active).of_view view).breakerLockout c).lawful
  exact ite (fun _ => failed) fun _ => failed.requestBackup

theorem sectionTripExpiry (h : e.s.AllLawful) (i : SecNo) : (e.sectionTripExpiry i).s.AllLawful := by
  refine ite (fun due => ?_) fun _ => h
  simp only [State.sectionDue, Bool.and_eq_true, beq_iff_eq] at due
  exact h.breakerFailure ((h i).active_of_state (by rw [due.1]; nofun)) _

end
end State.AllLawful

/-! ### A report of a section breaker -/

section
variable (s : State) (i : SecNo) (p : Position)

theorem State.setPosition_ctl : ((s.setPosition i p).sec i).ctl = { (s.sec i).ctl with position := p } := by
  simp [State.setPosition]

theorem State.setPosition_rcl : ((s.setPosition i p).sec i).rcl = (s.sec i).rcl := by simp [State.setPosition]

end

theorem State.Shaped.setPosition {s : State} {i : SecNo} (h : s.Shaped i) (p : Position) : (s.setPosition i p).Shaped i := by
  refine ⟨?_, ?_, ?_, ?_⟩ <;> rw [s.setPosition_ctl i p]
  · exact h.former
  all_goals rw [s.setPosition_rcl i p]
  · exact h.gating
  · exact h.testing
  · exact h.inactive

/-- R3: a position is recorded: CLOSED, or of a section that is not LIVE. -/
theorem State.SectionLawful.setPosition {s : State} {i : SecNo} (h : s.SectionLawful i) {p : Position}
    (hp : (s.sec i).ctl.state = .live → p = .closed) : (s.setPosition i p).SectionLawful i := by
  obtain ⟨former, gating, testing, inactive⟩ := h.shaped.setPosition p
  refine ⟨?_, ?_, former, gating, testing, inactive⟩ <;> rw [s.setPosition_ctl i p]
  · exact fun x => ⟨hp x, (h.live x).2⟩
  · exact h.closing

/-- R16: the effect of a report on its own section, the position already recorded: of a LIVE section it is OPEN now, and
the law stands again after the report. -/
theorem State.Shaped.judgeReport {e : Ev} {i : SecNo} {st : SecState} {r : Report} (h : e.s.Shaped i)
    (active : (e.s.secEntry i).active = true) (hs : (e.s.sec i).ctl.state = st)
    (lawful : ¬(st = .live ∧ (r = .opened ∨ r = .trippedLocal)) → e.s.SectionLawful i)
    (hp : r = .closed → st ≠ .tripping → (e.s.sec i).ctl.position = .closed)
    (own : r = .failed → st ≠ .live ∧ st ≠ .tripping) : (e.judgeReport i st r).s.SectionLawful i := by
  have kept (x : ¬(st = .live ∧ (r = .opened ∨ r = .trippedLocal))) := (lawful x).secLaw active
  cases st with
  | dead =>
    have h := lawful nofun
    cases r with
    | opened | trippedLocal => exact h
    | closed => exact .ite (fun ht => h.setLive active hs (hp rfl nofun) ht _) fun _ => h
    | failed => exact ((kept nofun).breakerLockout _).lawful
  | closing =>
    cases r with
    | opened => exact ((kept nofun).closeFails hs).lawful
    | closed => exact ((kept nofun).confirmClose hs (hp rfl nofun)).lawful
    | trippedLocal => exact (kept nofun).localTrip.lawful
    | failed => exact ((kept nofun).breakerLockout _).lawful
  | live =>
    have open_ : e.s.SecLaw False True i := h.secLaw (by rw [hs]; nofun)
    cases r with
    | opened =>
      exact (State.SecLaw.leaveSequence (e := e.mod _) (open_.setDown (L' := True) .dead .localOpen nofun nofun) _).lawful
    | closed => exact lawful (by simp)
    | trippedLocal => exact open_.localTrip.lawful
    | failed => exact absurd rfl (own rfl).1
  | opening =>
    cases r with
    | opened | trippedLocal => exact ((kept nofun).confirmOpen hs).lawful
    | closed => exact lawful nofun
    | failed => exact ((kept nofun).breakerLockout _).lawful
  | tripping =>
    cases r with
    | opened | trippedLocal => exact ((kept nofun).confirmTrip hs).lawful
    | closed => exact lawful nofun
    | failed => exact absurd rfl (own rfl).2
  | waiting | testing =>
    cases r with
    | opened | trippedLocal => exact lawful nofun
    | closed => exact ((kept nofun).closedInSequence (hp rfl nofun)).lawful
    | failed => exact ((kept nofun).breakerLockout _).lawful
  | lockedOut =>
    cases r with
    | opened | trippedLocal => exact lawful nofun
    | closed => exact .ite (fun _ => lawful nofun) fun _ => ((kept nofun).closeAgainstLock (.inl hs)).lawful
    | failed => exact ((kept nofun).failedLockedOut hs).lawful
  | isolated =>
    cases r with
    | opened | trippedLocal => exact lawful nofun
    | closed => exact ((kept nofun).closeAgainstLock (.inr hs)).lawful
    | failed => exact ((kept nofun).breakerLockout _).lawful

/-- R3: the position that a report records. -/
def Ev.placed (e : Ev) (i : SecNo) (r : Report) : Ev :=
  match r.position (e.s.sec i).ctl.state with
  | some p => e.mod fun s => s.setPosition i p
  | none => e

theorem Ev.breakerReport_eq (e : Ev) (i : SecNo) (r : Report) :
    e.breakerReport i r =
      if (e.s.secEntry i).active then (e.placed i r).judgeReport i (e.s.sec i).ctl.state r else e.placed i r := by
  unfold Ev.breakerReport Ev.placed
  dsimp only
  cases r.position (e.s.sec i).ctl.state <;> rfl

section
variable {e : Ev} {i : SecNo} {r : Report}

theorem Ev.placed_state : ((e.placed i r).s.sec i).ctl.state = (e.s.sec i).ctl.state := by
  unfold Ev.placed
  split
  · rw [Ev.mod_s, State.setPosition_ctl]
  · rfl

theorem Ev.placed_shaped (h : e.s.Shaped i) : (e.placed i r).s.Shaped i := by
  unfold Ev.placed
  split
  · exact h.setPosition _
  · exact h

theorem Ev.placed_lawful (h : e.s.SectionLawful i)
    (hr : (e.s.sec i).ctl.state = .live → r ≠ .opened ∧ r ≠ .trippedLocal) : (e.placed i r).s.SectionLawful i := by
  unfold Ev.placed
  split
  · rename_i p recorded
    refine h.setPosition fun live => ?_
    obtain ⟨h1, h2⟩ := hr live
    rw [live] at recorded
    cases r with
    | opened => exact absurd rfl h1
    | trippedLocal => exact absurd rfl h2
    | closed => exact (Option.some.inj recorded).symm
    | failed => cases recorded
  · exact h

theorem Ev.placed_closed (hr : r = .closed) (hs : (e.s.sec i).ctl.state ≠ .tripping) :
    ((e.placed i r).s.sec i).ctl.position = .closed := by
  subst hr
  have recorded : Report.closed.position (e.s.sec i).ctl.state = some .closed := if_neg hs
  unfold Ev.placed
  rw [recorded, Ev.mod_s, State.setPosition_ctl]

theorem Ev.placed_edits : e.Edits (Part.OfSec i) (e.placed i r) := by
  unfold Ev.placed
  split
  · exact Ev.Edits.refl.mod (.setPosition (show Part.OfSec i (.sec i) from rfl) .refl _)
  · exact .refl

end

namespace State.AllLawful

section
variable {e : Ev}

theorem breakerReport (h : e.s.AllLawful) (i : SecNo) (r : Report) : (e.breakerReport i r).s.AllLawful := by
  rw [Ev.breakerReport_eq]
  by_cases active : (e.s.secEntry i).active = true
  · rw [if_pos active]
    have still : ((e.placed i r).s.secEntry i).active = true := by
      rw [State.secEntry, Ev.placed_edits.state.tables id id]
      exact active
    by_cases failure : r = .failed ∧ ((e.s.sec i).ctl.state = .live ∨ (e.s.sec i).ctl.state = .tripping)
    · have placed : (e.placed i r).s.AllLawful :=
        h.of_sec Ev.placed_edits (Ev.placed_lawful (h i) fun _ => by rw [failure.1]; exact ⟨nofun, nofun⟩)
      obtain ⟨rfl, live | tripping⟩ := failure
      · rw [live]
        change ((e.placed i .failed).breakerFailure i .failedReport).s.AllLawful
        exact placed.breakerFailure still _
      · rw [tripping]
        change ((e.placed i .failed).breakerFailure i .failedReport).s.AllLawful
        exact placed.breakerFailure still _
    · have own : r = .failed → (e.s.sec i).ctl.state ≠ .live ∧ (e.s.sec i).ctl.state ≠ .tripping :=
        fun hr => not_or.mp fun hs => failure ⟨hr, hs⟩
      refine h.of_sec (Ev.placed_edits.judgeOwnReport le_rfl own)
        ((Ev.placed_shaped (h i).shaped).judgeReport still Ev.placed_state (fun x => Ev.placed_lawful (h i) fun live => ?_)
          (fun hr hs => Ev.placed_closed hr hs) own)
      exact not_or.mp fun hr => x ⟨live, hr⟩
  · rw [if_neg active]
    refine h.of_sec Ev.placed_edits (Ev.placed_lawful (h i) fun live => ?_)
    exact absurd ((h i).active_of_state (by rw [live]; nofun)) active

theorem breakerState (h : e.s.AllLawful) (obj : BreakerObj) (body : List Byte) : (e.breakerState obj body).s.AllLawful := by
  unfold Ev.breakerState
  split
  · exact h.stationReport _
  · exact h
  · exact h.breakerReport _ _
  · rename_i i _
    refine ite (fun _ => h.of_sec ?_ ((h i).mod (State.lawView_modFeed _ i _))) fun _ => h
    exact Ev.Edits.refl.mod (.modFeed (show Part.OfSec i (.sec i) from rfl) .refl _)

theorem takeLineTest (h : e.s.AllLawful) (obj : BreakerObj) (body : List Byte) : (e.takeLineTest obj body).s.AllLawful := by
  unfold Ev.takeLineTest
  split
  · exact ite (fun active => h.of_sec (Ev.Edits.refl.lineTestResult le_rfl _) (((h _).secLaw active).lineTestResult _).lawful)
      fun _ => h
  · exact h

end
end State.AllLawful

end Sys2Proof.Machine

namespace Sys2Proof.Machine

open Sys2Proof

namespace State.AllLawful

section
variable {e : Ev}

/-- A write that reaches no section, not the station and no table. -/
theorem aside {d e : Ev} (h : d.s.AllLawful) (k : d.Edits Part.Aside e) : e.s.AllLawful :=
  h.edits k (fun _ => id) id id id

theorem admin {f : Ev} (h : e.s.AllLawful) (a : e.Admin f) : f.s.AllLawful := h.aside (Ev.Edits.refl.admin le_rfl a)

/-! Modes -/

theorem modeEffects (h : e.s.AllLawful) (was m : Mode) : (e.modeEffects was m).s.AllLawful := by
  have acted (m : Mode) : (e.forSecs fun e i => e.modeActsOn m i).s.AllLawful :=
    Ev.forSecs_lawful h (fun _ _ => Ev.Edits.refl.modeActsOn le_rfl m) fun _ _ k => k.modeActsOn m
  have refused (m : Mode) := (acted m).aside (Ev.Edits.refl.forPoints _ fun _ p k => k.refuseAll le_rfl p .outOfService)
  unfold Ev.modeEffects
  split
  · exact Ev.forSecs_lawful h (fun _ _ => Ev.Edits.refl.derive le_rfl) fun _ _ k => k.derive
  · exact acted _
  · exact refused _
  · exact refused _
  · exact h

theorem changeMode (h : e.s.AllLawful) (m : Mode) (c : ChangeCause) : (e.changeMode m c).s.AllLawful := by
  have entered : (e.mod fun s => s.modMode fun r => { r with mode := m, lastChange := (c, s.partTime) }).s.AllLawful :=
    h.of_view fun _ => rfl
  exact entered.modeEffects _ _

theorem enterAutonomous (h : e.s.AllLawful) : e.enterAutonomous.s.AllLawful := by
  have counted : (e.mod fun s => s.modMode fun r => { r with autonomous := inc16 r.autonomous }).s.AllLawful :=
    h.of_view fun _ => rfl
  exact counted.changeMode _ _

theorem controlHeard (h : e.s.AllLawful) : e.controlHeard.s.AllLawful := by
  have heard : (e.mod fun s => s.startSilence.modMode fun r => { r with silent := false }).s.AllLawful := h.of_view fun _ => rfl
  exact ite (fun _ => heard.changeMode _ _) fun _ => heard

theorem silenceTaken (h : e.s.AllLawful) : e.silenceTaken.s.AllLawful := by
  have silent : (e.mod fun s => s.modMode fun r => { r with silence := none, silent := true }).s.AllLawful :=
    h.of_view fun _ => rfl
  exact ite (fun _ => ite (fun _ => silent.enterAutonomous) fun _ => silent) fun _ => h

theorem setMode (h : e.s.AllLawful) (b : Byte) : (e.setMode b).1.s.AllLawful := by
  unfold Ev.setMode
  split
  · exact ite (fun _ => h) fun _ => h.changeMode _ _
  · split
    · exact h
    split
    · exact h
    · exact ite (fun _ => (h.changeMode _ _).enterAutonomous) fun _ => h.changeMode _ _
  · exact h

theorem startMode (h : e.s.AllLawful) : e.startMode.s.AllLawful := by
  have started : (e.mod fun s => s.startSilence.modMode fun r =>
      { r with silent := false, lastChange := (.start, s.partTime) }).s.AllLawful := h.of_view fun _ => rfl
  exact ite (fun _ => started.changeMode _ _) fun _ => started

end
end State.AllLawful

/-! ### Tables -/

@[simp] theorem State.cutTransaction_store (s : State) : s.cutTransaction.store = s.store := by
  unfold State.cutTransaction
  split <;> rfl

theorem State.lawView_startBlind (s : State) (i : SecNo) : (s.startBlind i).lawView i = s.lawView i := by
  simp [State.startBlind, State.lawView, State.secEntry, State.beginBlind, State.modSel]

/-- R1: a section is taken out of service. -/
theorem Ev.deactivateSection_lawful (e : Ev) (i : SecNo) : (e.deactivateSection i).s.SectionLawful i := by
  refine State.sectionLawful_of_retired ?_ ?_ ?_ <;> rw [Ev.deactivateSection, Ev.mod_s, State.sec_modSec_self] <;> rfl

theorem State.activateSection_lawful (s : State) (i : SecNo) : (s.activateSection i).SectionLawful i := by
  refine State.SectionLawful.of_view ?_ (State.lawView_startBlind _ i)
  refine State.sectionLawful_of_retired ?_ ?_ ?_ <;> rw [State.sec_modSec_self] <;> rfl

/-- R195: a section when the tables are replaced; the law held under the old ones. -/
theorem Ev.sectionReplaced_lawful {e : Ev} {old : Tables} {i : SecNo}
    (h : State.SectionLawful { e.s with tables := old } i) : (e.sectionReplaced old i).s.SectionLawful i := by
  unfold Ev.sectionReplaced
  split
  · rename_i was now
    have law : e.s.SecLaw True True i :=
      ⟨now, fun _ => h.live, fun _ => h.closing, h.former, fun _ => h.gating, fun _ => h.testing⟩
    exact (law.reloadSection _).lawful
  · exact e.deactivateSection_lawful i
  · exact State.SectionLawful.derive (e := e.mod _) (State.activateSection_lawful _ i)
  · rename_i was now
    exact ⟨h.live, h.closing, h.former, h.gating, h.testing, fun _ => h.inactive was⟩

namespace State.AllLawful

section
variable {e : Ev}

theorem replaceTables (h : e.s.AllLawful) (t : Tables) : (e.replaceTables t).s.AllLawful := by
  unfold Ev.replaceTables
  extract_lets old replaced secs points
  have secs : secs.s.AllLawful := by
    refine Ev.forSecs_turn (e := replaced) (P := fun s i => State.SectionLawful { s with tables := old } i)
      (Q := State.SectionLawful) (fun _ _ => Ev.Edits.refl.sectionReplaced le_rfl old)
      (fun s t j x k => ?_) (fun _ _ _ x k => k.of_view x)
      (fun _ _ k => Ev.sectionReplaced_lawful k) fun i => ?_
    · refine k.of_view ?_
      simp only [State.lawView, Prod.mk.injEq] at x ⊢
      exact ⟨rfl, x.2⟩
    · have h := h i
      exact ⟨h.live, h.closing, h.former, h.gating, h.testing, h.inactive⟩
  have points : points.s.AllLawful := secs.aside (Ev.Edits.refl.forPoints _ fun _ p k => k.pointReplaced le_rfl _ p)
  exact points.aside (Ev.Edits.refl.ratesChanged le_rfl)

theorem endRequest (h : e.s.AllLawful) (r : Result) (data : List Byte) : (e.endRequest r data).s.AllLawful :=
  h.aside (Ev.Edits.refl.endRequest le_rfl r data)

theorem reloadEnd (h : e.s.AllLawful) (status : StoreStatus) (t : Option Tables) : (e.reloadEnd status t).s.AllLawful := by
  unfold Ev.reloadEnd
  dsimp only
  split
  · exact h.endRequest _ _
  · have ended : (e.mod fun s => s.modStore fun r => { r with status := status }).s.AllLawful := h.of_view fun _ => rfl
    split
    · exact (ended.replaceTables _).endRequest _ _
    · exact ended.endRequest _ _

/-- R192: the load ends; every section's records were cold until now. -/
theorem loadEnd (h : ∀ i, e.s.sec i = coldSec) (status : StoreStatus) (t : Option Tables) :
    (e.loadEnd status t).s.AllLawful := by
  unfold Ev.loadEnd
  extract_lets ended secs points
  have ended : ended.s.AllLawful := fun i => State.sectionLawful_of_cold (h i)
  have secs : secs.s.AllLawful :=
    Ev.forSecs_lawful ended (fun _ i => .ite (fun _ => Ev.Edits.refl.mod (.startBlind (show Part.OfSec i (.sec i) from rfl) .refl))
      fun _ => .refl) fun _ i k => .ite (fun _ => k.mod (State.lawView_startBlind _ i)) fun _ => k
  have points : points.s.AllLawful :=
    secs.aside (Ev.Edits.refl.forPoints _ fun _ p k => .ite (fun _ => k.activatePoint le_rfl p) fun _ => k)
  refine (points.startMode.aside (Ev.Edits.refl.ratesChanged le_rfl)).aside (Ev.Edits.refl.mod ?_)
  exact .startReports (fun _ => trivial) .refl

/-! The store -/

/-- R192: while the configuration is loaded, every section's records are cold. -/
theorem imageGoesOn (h : e.s.AllLawful) (got : List Byte) (op : List Byte → StoreOp)
    {stop : Ev → StoreStatus → Option Tables → Ev} (hstop : ∀ st t, (stop e st t).s.AllLawful) :
    (e.imageGoesOn got op stop).s.AllLawful := by
  unfold Ev.imageGoesOn
  split
  · exact h.of_view fun _ => rfl
  · exact hstop _ _

theorem readAnswered (h : e.s.AllLawful) (cold : e.s.loading = true → ∀ i, e.s.sec i = coldSec) (bs : List Byte) :
    (e.readAnswered bs).s.AllLawful := by
  unfold Ev.readAnswered
  split
  · rename_i got hop
    exact h.imageGoesOn _ _ fun _ _ => loadEnd (cold (by simp [State.loading, hop])) _ _
  · exact h.imageGoesOn _ _ fun _ _ => h.reloadEnd _ _
  · exact h.endRequest _ _

theorem transactionAnswered (h : e.s.Lawful) : e.transactionAnswered.s.AllLawful := by
  unfold Ev.transactionAnswered
  split
  · exact h.sections
  · have taken : (e.mod fun s => s.modStore fun r => { r with trans := none }).s.AllLawful :=
      AllLawful.of_view h.sections fun _ => rfl
    exact taken.readAnswered h.loading _
  · rename_i a bs _ _
    have committed : (e.mod fun s => (s.commit a bs).modStore fun r => { r with trans := none }).s.AllLawful :=
      AllLawful.of_view h.sections fun _ => rfl
    exact committed.aside (Ev.Edits.refl.writeAnswered le_rfl)

theorem transactionExpiry (h : e.s.Lawful) : e.transactionExpiry.s.AllLawful := by
  have edits : e.Edits Part.Aside (e.mod fun s => s.cutTransaction.modStore fun r => { r with trans := none }) :=
    Ev.Edits.refl.mod (.modStoreSame trivial (.cutTransaction trivial .refl) _ rfl)
  have cut := AllLawful.aside h.sections edits
  refine ite (fun _ => ?_) fun _ => h.sections
  unfold Ev.timedOut
  dsimp only
  split
  · rename_i got hop
    refine loadEnd (fun i => ?_) _ _
    rw [edits.state.sec id id]
    refine h.loading ?_ i
    have hop : e.s.cutTransaction.store.op = some (.load got) := hop
    rw [State.cutTransaction_store] at hop
    simp [State.loading, hop]
  · exact cut.reloadEnd _ _
  · exact cut.endRequest _ _

end
end State.AllLawful

end Sys2Proof.Machine

namespace Sys2Proof.Machine

open Sys2Proof

/-! ### Entries -/

/-- R188: WRITE_ENTRY keeps every section's flag. -/
theorem Tables.put_secActive {t u : Tables} {tbl : Table} {k : Nat} {bs : List Byte} (h : t.put tbl k bs true = some u)
    (i : SecNo) : u.sections[i].active = t.sections[i].active := by
  unfold Tables.put at h
  split at h
  case h_2 =>
    split at h
    · obtain ⟨x, _, rfl⟩ := Option.map_eq_some_iff.mp h
      rfl
    · split at h
      · rename_i j _
        obtain ⟨x, _, rfl⟩ := Option.map_eq_some_iff.mp h
        by_cases hj : j = i.val
        · subst hj
          simp
        · simp [Vector.getElem_set_ne, hj]
      · cases h
  case h_4 | h_5 =>
    split at h
    · cases h
      rfl
    · cases h
  case h_6 =>
    obtain ⟨x, _, rfl⟩ := Option.map_eq_some_iff.mp h
    rfl
  all_goals
    split at h
    · obtain ⟨x, _, rfl⟩ := Option.map_eq_some_iff.mp h
      rfl
    · cases h

namespace State.AllLawful

section
variable {e : Ev}

theorem writeEntry (h : e.s.AllLawful) (table index : Byte) (entry : List Byte) :
    (e.writeEntry table index entry).1.s.AllLawful := by
  unfold Ev.writeEntry
  split
  · exact h
  split
  · exact h
  split
  · exact h
  split
  · exact h
  split
  · exact h
  · rename_i u hu
    have written : State.AllLawful { e.s with tables := u } := h.of_view fun i => by
      simp only [State.lawView, State.secEntry, Tables.put_secActive hu]
      rfl
    dsimp only [Ev.mod_s]
    split
    · refine written.of_view fun i => ?_
      unfold State.clearBinding
      split <;> rfl
    · exact (State.Edits.ratesChanged trivial (.ratesChanged trivial .refl)).allLawful (T := Part.Aside) written (fun _ => id) id id id
    · exact written

theorem sectionActive (h : e.s.AllLawful) (i : SecNo) (on : Bool) : (e.sectionActive i on).1.s.AllLawful := by
  have others (on : Bool) {j : SecNo} (hj : j ≠ i) : (e.s.setSectionActive i on).SectionLawful j := by
    refine (h j).of_view ?_
    have entry : (e.s.setSectionActive i on).secEntry j = e.s.secEntry j :=
      Vector.getElem_set_ne i.isLt j.isLt fun x => hj (Fin.ext x.symm)
    simp only [State.lawView, entry]
    rfl
  have taken {on : Bool} {f : Ev} (edits : (e.mod fun s => s.setSectionActive i on).Edits (Part.OfSec i) f)
      (own : f.s.SectionLawful i) : f.s.AllLawful := by
    intro j
    by_cases hj : j = i
    · subst hj
      exact own
    · exact (others on hj).of_view (edits.lawView_of_ne hj)
  unfold Ev.sectionActive
  split
  · exact h
  split
  · refine taken (on := true) ?_ (State.SectionLawful.derive (e := e.mod _) (State.activateSection_lawful _ i))
    refine Ev.Edits.derive le_rfl ?_
    exact Ev.Edits.mod .refl (f := fun s => s.activateSection i) (.activateSection (show Part.OfSec i (.sec i) from rfl) .refl)
  split
  · exact taken (on := false) (Ev.Edits.refl.deactivateSection le_rfl) (Ev.deactivateSection_lawful _ i)
  · exact h

theorem pointActive (h : e.s.AllLawful) (p : PointNo) (on : Bool) : (e.pointActive p on).1.s.AllLawful := by
  have flagged (on : Bool) : (e.mod fun s => s.setPointActive p on).s.AllLawful := h.of_view fun _ => rfl
  unfold Ev.pointActive
  split
  · exact h
  split
  · exact (flagged true).aside (Ev.Edits.refl.activatePoint le_rfl p)
  split
  · exact h
  · exact (flagged false).aside (Ev.Edits.refl.dropPoint le_rfl p)

theorem stationActive (h : e.s.AllLawful) (on : Bool) : (e.stationActive on).1.s.AllLawful := by
  unfold Ev.stationActive
  split
  · exact h.of_view fun _ => rfl
  · exact h

theorem entryActive (h : e.s.AllLawful) (table index value : Byte) : (e.entryActive table index value).1.s.AllLawful := by
  have bound (k : Nat) (on : Bool) : (e.mod fun s => s.setBindingActive k on).s.AllLawful := by
    refine h.of_view fun i => ?_
    rw [Ev.mod_s]
    unfold State.setBindingActive
    split <;> rfl
  unfold Ev.entryActive
  split
  · split
    · exact h
    · split
      · exact bound _ _
      · split
        · exact h.stationActive _
        · split
          · exact h.sectionActive _ _
          · exact h
      · split
        · exact h.pointActive _ _
        · exact h
      all_goals exact h
  · exact h

end
end State.AllLawful

/-- R179: every section's records after a cold restart. -/
theorem State.coldStart_sec (s : State) (cause : RestartCause) (tag : Option Byte) (i : SecNo) :
    (s.coldStart cause tag).sec i = coldSec := State.reset_sec i

/-! ### Orders, expiries and the end of an event -/

namespace State.AllLawful

section
variable {d e f : Ev}

/-- An order or an expiry of one section. -/
theorem own (h : e.s.AllLawful) {i : SecNo} (edits : e.Edits (Part.OfSec i) f)
    (law : e.s.SectionLawful i → f.s.SectionLawful i) : f.s.AllLawful := h.of_sec edits (law (h i))

theorem order (h : e.s.AllLawful) (o : e.Order f) : f.s.AllLawful := by
  have hp (p : PointNo) := Part.ofPoint_le_ofTraffic p
  cases o with
  | sample i r x => exact h.own (Ev.Edits.refl.sampleTelegram le_rfl r x) fun k => k.sampleTelegram r x
  | breakerState obj body => exact h.breakerState obj body
  | lineTest obj body => exact h.takeLineTest obj body
  | pointPosition p body => exact h.traffic (Ev.Edits.refl.takePointPosition (hp p) body)
  | contact p r body => exact h.traffic (Ev.Edits.refl.takeContact (hp p) r body)
  | vehicleStatus st => exact h.vehicleStatus st
  | routeRequest body => exact h.traffic (Ev.Edits.refl.takeRouteRequest le_rfl body)
  | sectionClose i => exact h.own (Ev.Edits.refl.sectionClose le_rfl) fun k => k.sectionClose
  | sectionOpen i trip => exact h.own (Ev.Edits.refl.sectionOpen le_rfl trip) fun k => k.sectionOpen trip
  | sectionReset i => exact h.own (Ev.Edits.refl.sectionReset le_rfl) fun k => k.sectionReset
  | sectionIsolate i force => exact h.own (Ev.Edits.refl.sectionIsolate le_rfl force) fun k => k.sectionIsolate force
  | sectionRelease i => exact h.own (Ev.Edits.refl.sectionRelease le_rfl) fun k => k.sectionRelease
  | stationClose => exact h.stationClose
  | stationOpen trip => exact h.stationOpen trip
  | stationReset => exact h.stationReset
  | pointSet p l => exact h.traffic (Ev.Edits.refl.pointSet (hp p) l)
  | pointLock p l => exact h.traffic (Ev.Edits.refl.pointLock (hp p) l)
  | pointUnlock p => exact h.traffic (Ev.Edits.refl.pointUnlock (hp p))
  | pointClear p => exact h.traffic (Ev.Edits.refl.pointClear (hp p))
  | vehicleForget n => exact h.traffic (Ev.Edits.refl.vehicleForget le_rfl n)
  | writeEntry table index entry => exact h.writeEntry table index entry
  | entryActive table index value => exact h.entryActive table index value
  | setMode b => exact h.setMode b
  | clearIncidents => exact h.of_view fun _ => rfl
  | storeRead r code a n => exact h.aside (Ev.Edits.refl.storeRead le_rfl r code a n)
  | storeWrite r code a bs => exact h.aside (Ev.Edits.refl.storeWrite le_rfl r code a bs)
  | storeSave r code => exact h.aside (Ev.Edits.refl.storeSave le_rfl r code)
  | storeReload r code => exact h.aside (Ev.Edits.refl.storeReload le_rfl r code)

theorem sweep (h : e.s.AllLawful) (o : e.Sweep f) : f.s.AllLawful := by
  cases o with
  | clearCounters =>
    refine h.of_view fun i => ?_
    simp [State.lawView, State.clearCounters, State.sec, State.secEntry, Sec.cleared]
  | restartCold tag => exact fun i => State.sectionLawful_of_cold (State.coldStart_sec _ _ _ i)
  | restartWarm tag =>
    unfold Ev.warmRestart
    extract_lets records secs points
    have records : records.s.AllLawful := by
      have kept : (e.s.warmRecords tag).AllLawful := h.of_view fun _ => rfl
      exact kept.aside (d := e.mod fun s => s.warmRecords tag)
        (Ev.Edits.refl.mod (f := fun s => s.startReports) (.startReports (fun _ => trivial) .refl))
    have secs : secs.s.AllLawful :=
      Ev.forSecs_lawful records (fun _ _ => Ev.Edits.refl.warmSection le_rfl) fun _ _ k => k.warmSection
    have points : points.s.AllLawful := by
      refine secs.aside (Ev.Edits.refl.forPoints _ fun _ p k => k.mod ?_)
      exact .modPoint trivial (.refuseAll (Part.queue_le (Part.ofPoint_le_aside p)) .refl _) _ (fun b => ⟨b.occupancy, b.queue⟩) rfl
    exact points.aside (Ev.Edits.refl.mod (.modSupervisor trivial .refl fun _ => coldSupervisor))

theorem expiry (h : e.s.Lawful) (x : e.Expiry f) : f.s.AllLawful := by
  have all : e.s.AllLawful := h.sections
  cases x with
  | answered => exact transactionAnswered h
  | transaction => exact transactionExpiry h
  | closeConfirmTime i => exact all.own (Ev.Edits.refl.closeConfirmTimeExpiry le_rfl) fun k => k.closeConfirmTimeExpiry
  | sectionOpen i => exact all.own (Ev.Edits.refl.sectionOpenExpiry le_rfl) fun k => k.sectionOpenExpiry
  | sectionTrip i => exact all.sectionTripExpiry i
  | stationClose => exact all.stationCloseExpiry
  | stationOpen => exact all.stationOpenExpiry
  | backupTrip => exact all.backupTripExpiry
  | stale i r => exact all.own (Ev.Edits.refl.staleExpiry le_rfl r) fun k => k.staleExpiry r
  | blind i => exact all.own (Ev.Edits.refl.blindExpiry le_rfl) fun k => k.blindExpiry
  | deadTime i => exact all.own (Ev.Edits.refl.deadTimeExpiry le_rfl) fun k => k.deadTimeExpiry
  | hold i => exact all.own (Ev.Edits.refl.holdExpiry le_rfl) fun k => k.holdExpiry
  | lineTest i => exact all.own (Ev.Edits.refl.lineTestExpiry le_rfl) fun k => k.lineTestExpiry
  | reclaim i => exact all.own (Ev.Edits.refl.reclaimExpiry le_rfl) fun k => k.reclaimExpiry
  | window n => exact all.windowExpiry n
  | admission v => exact all.traffic (Ev.Edits.refl.admissionExpiry le_rfl v)
  | silence v => exact all.traffic (Ev.Edits.refl.silenceExpiry le_rfl v)
  | life p v => exact all.traffic (Ev.Edits.refl.lifeExpiry (Part.ofPoint_le_ofTraffic p) v)
  | throwing p =>
    refine all.edits (T := Part.Aside) (Ev.Edits.refl.throwExpiry (Part.ofPoint_le_aside p) trivial) (fun _ => id) id id id
  | controlSilence => exact all.silenceTaken

theorem begun (h : d.s.AllLawful) (b : d.Begun e) : e.s.AllLawful := by
  induction b with
  | refl => exact h
  | tail _ a ih =>
    rcases a with a | rfl
    · exact ih.admin a
    · exact ih.controlHeard

theorem ran (h : d.s.AllLawful) (b : d.Ran e) : e.s.AllLawful := by
  obtain ⟨f, g, hb, order, admins⟩ := b
  have before := h.begun hb
  have after : g.s.AllLawful := by
    rcases order with rfl | ⟨_, o | o⟩
    · exact before
    · exact before.order o
    · exact before.sweep o
  exact after.aside (Ev.Edits.refl.admins le_rfl admins)

theorem finish (h : e.s.AllLawful) : e.finish.AllLawful := by
  have blind : e.blindPass.s.AllLawful :=
    Ev.forSecs_lawful h (fun _ _ => .ite (fun _ => Ev.Edits.refl.blindDecision le_rfl) fun _ => .refl)
      fun _ _ k => .ite (fun _ => k.blindDecision) fun _ => k
  have settled : e.settle.s.AllLawful :=
    blind.aside ((Ev.Edits.refl.supplyNotices (fun _ => trivial) trivial).serveMarked fun p => Part.queue_le (Part.ofPoint_le_aside p))
  exact (List.foldlRecOn (motive := e.settle.s.Edits Part.Aside) _ _ (.pushAll trivial .refl _)
    fun _ k _ _ => .pushNormal trivial k _).allLawful settled (fun _ => id) id id id

end
end State.AllLawful

end Sys2Proof.Machine

/-! SUPPORT. R192: while the configuration is loaded, no command moves a section from its cold-restart values. -/

namespace Sys2Proof.Machine

open Sys2Proof

/-- R1, R27, R49, R52, R65: every section's records stand at their cold-restart values. -/
def State.SecsCold (s : State) : Prop := ∀ i, s.sec i = coldSec

/-- R192: they do while the configuration is loaded. -/
def State.ColdLoad (s : State) : Prop := s.loading = true → s.SecsCold

section
variable {T : Part → Prop} {s t : State}

theorem State.SecsCold.edits (h : s.SecsCold) (e : s.Edits T t) (h1 : ∀ i, ¬T (.sec i)) (hw : ¬T .whole) : t.SecsCold :=
  fun i => (e.sec (h1 i) hw).trans (h i)

theorem State.ColdLoad.of_not_loading (h : s.loading = false) (e : s.Edits T t) (hw : ¬T .whole) : t.ColdLoad := by
  intro x
  rw [e.not_loading hw h] at x
  cases x

theorem State.ColdLoad.edits (h : s.ColdLoad) (e : s.Edits T t) (h1 : ∀ i, ¬T (.sec i)) (hw : ¬T .whole) : t.ColdLoad := by
  cases hl : s.loading with
  | true => exact fun _ => (h hl).edits e h1 hw
  | false => exact .of_not_loading hl e hw

end

theorem State.op_of_loading {s : State} (h : s.loading = true) : ∃ got, s.store.op = some (.load got) := by
  unfold State.loading at h
  split at h
  · exact ⟨_, ‹_›⟩
  · cases h

/-! ### Expiries and the end of an event -/

section
variable {e : Ev} {i : SecNo}

theorem Ev.reevaluate_of_cold (h : e.s.sec i = coldSec) (g : Gate) : e.reevaluate i g = e :=
  Ev.reevaluate_of_not_gating (by rw [h]; nofun) g

theorem Ev.withStation_cold {f : Ev → Ev} (h : (f e).s.SecsCold) : (e.withStation f).s.SecsCold := by
  unfold Ev.withStation
  dsimp only
  split
  · exact h
  · rw [Ev.forSecs_id _ _ fun i => Ev.reevaluate_of_cold (h i) _]
    exact h

theorem State.sectionDue_of_cold {s : State} (h : s.sec i = coldSec) (st : SecState) : s.sectionDue i st = false := by
  simp [State.sectionDue, h, coldSec, coldCtl]

end

/-- What an expiry of the station's orders writes itself. -/
def Part.OfStation : Part → Prop
  | .station | .incidents | .urgent => True
  | _ => False

namespace State.SecsCold

section
variable {e f : Ev}

theorem withStation (h : e.s.SecsCold) {f : Ev → Ev} (k : e.Edits Part.OfStation (f e)) : (e.withStation f).s.SecsCold :=
  Ev.withStation_cold (h.edits k.state (fun _ => id) id)

theorem ite {c : Prop} [Decidable c] {e f : Ev} (h : c → e.s.SecsCold) (k : ¬c → f.s.SecsCold) :
    (if c then e else f).s.SecsCold := by
  split
  · exact h ‹_›
  · exact k ‹_›

theorem stationFails (h : e.s.SecsCold) : (e.withStation Ev.stationFails).s.SecsCold := by
  refine h.withStation (Ev.Edits.recordClosed trivial (Ev.Edits.refl.mod ?_) _ _ _ _)
  exact .setStationPending trivial (.setStation trivial .refl _ _) _

theorem stationCloseExpiry (h : e.s.SecsCold) : e.stationCloseExpiry.s.SecsCold := by
  refine ite (fun _ => h.withStation (Ev.Edits.refl.mod ?_)) fun _ => h
  exact .withdraw trivial (.setStationPending trivial (.setStation trivial .refl _ _) _) _

theorem stationOpenExpiry (h : e.s.SecsCold) : e.stationOpenExpiry.s.SecsCold := by
  refine ite (fun _ => h.withStation (Ev.Edits.recordClosed trivial (Ev.Edits.refl.mod ?_) _ _ _ _)) fun _ => h
  exact .setStationPending trivial (.setStation trivial (.releaseStationLineIf trivial .refl _) _ _) _

theorem windowExpiry (h : e.s.SecsCold) (n : Nat) : (e.windowExpiry n).s.SecsCold := by
  refine ite (fun _ => ?_) fun _ => h
  unfold Ev.windowClosed
  split
  · exact h
  · have held (f : Incident → Incident) : (e.mod fun s => s.modRecord n f).s.SecsCold := fun i => h i
    have told {e : Ev} (h : e.s.SecsCold) : (e.reportIncident n .windowClosed).s.SecsCold :=
      h.edits (T := fun _ => False) (Ev.Edits.refl.reportIncident _ _).state (fun _ => id) id
    refine told ?_
    split
    · rw [Ev.reevaluate_of_cold (held _ _), ite_self]
      exact held _
    · exact held _

/-- R176: a change to AUTONOMOUS. -/
theorem modeEffects (h : e.s.SecsCold) (was : Mode) : e.modeEffects was .autonomous = e := by
  cases was with
  | active => exact Ev.forSecs_id _ _ fun i => by simp [Ev.modeActsOn, h i, coldSec, coldReclose]
  | observe | autonomous => rfl

theorem enterAutonomous (h : e.s.SecsCold) : e.enterAutonomous.s.SecsCold := by
  unfold Ev.enterAutonomous Ev.changeMode
  dsimp only
  rw [modeEffects]
  · exact fun i => h i
  · exact fun i => h i

theorem silenceTaken (h : e.s.SecsCold) : e.silenceTaken.s.SecsCold := by
  have silent : (e.mod fun s => s.modMode fun r => { r with silence := none, silent := true }).s.SecsCold := fun i => h i
  exact ite (fun _ => ite (fun _ => silent.enterAutonomous) fun _ => silent) fun _ => h

theorem blindPass (h : e.s.SecsCold) : e.blindPass = e := by
  refine Ev.forSecs_id _ _ fun i => ?_
  simp [h i, coldSec, coldSelector]

end
end State.SecsCold

/-- R175: the control station being heard writes the mode alone. -/
theorem Ev.controlHeard_edits (e : Ev) : e.s.Edits Part.Aside e.controlHeard.s := by
  have heard : e.Edits Part.Aside (e.mod fun s => s.startSilence.modMode fun r => { r with silent := false }) :=
    Ev.Edits.refl.mod (.modMode trivial (.modMode trivial .refl _ id) _ id)
  unfold Ev.controlHeard
  dsimp only
  split
  · rename_i autonomous
    unfold Ev.changeMode
    dsimp only
    have kept (e : Ev) : e.modeEffects .autonomous .active = e := rfl
    rw [autonomous, kept]
    exact (heard.mod (.modMode trivial .refl _ fun x => by cases x)).state
  · exact heard.state

namespace State.ColdLoad

section
variable {d e f : Ev}

/-- R192: after the load the configuration is loaded no more. -/
theorem loadEnd (e : Ev) (status : StoreStatus) (t : Option Tables) : (e.loadEnd status t).s.ColdLoad := by
  unfold Ev.loadEnd
  extract_lets ended secs points
  have done : ended.s.loading = false := rfl
  have secs : ended.Edits Part.All secs := Ev.Edits.refl.forSecs _ fun _ _ k => .ite (fun _ => k.mod (.startBlind trivial .refl)) fun _ => k
  have points : ended.Edits Part.All points :=
    secs.forPoints _ fun _ p k => .ite (fun _ => k.activatePoint Part.aside_le_all p) fun _ => k
  have started := (points.startMode le_rfl).ratesChanged Part.aside_le_all
  exact .of_not_loading done (started.mod (.startReports (fun _ => trivial) .refl)).state id

theorem imageGoesOn {e : Ev} (h : e.s.SecsCold) (got : List Byte) (op : List Byte → StoreOp)
    {stop : Ev → StoreStatus → Option Tables → Ev} (hstop : ∀ st t, (stop e st t).s.ColdLoad) :
    (e.imageGoesOn got op stop).s.ColdLoad := by
  unfold Ev.imageGoesOn
  split
  · exact fun _ i => h i
  · exact hstop _ _

theorem transactionAnswered {e : Ev} (h : e.s.SecsCold) (hl : e.s.loading = true) : e.transactionAnswered.s.ColdLoad := by
  obtain ⟨got, hop⟩ := State.op_of_loading hl
  unfold Ev.transactionAnswered
  split
  · exact fun _ => h
  · have hop : (e.mod fun s => s.modStore fun r => { r with trans := none }).s.store.op = some (.load got) := hop
    unfold Ev.readAnswered
    rw [hop]
    refine imageGoesOn ?_ _ _ fun _ _ => loadEnd _ _ _
    exact fun i => h i
  · rename_i a bs _ _
    have cold : (e.mod fun s => (s.commit a bs).modStore fun r => { r with trans := none }).s.SecsCold := fun i => h i
    exact fun _ => cold.edits (Ev.Edits.refl.writeAnswered (T := Part.Aside) le_rfl).state (fun _ => id) id

theorem transactionExpiry {e : Ev} (h : e.s.SecsCold) (hl : e.s.loading = true) : e.transactionExpiry.s.ColdLoad := by
  obtain ⟨got, hop⟩ := State.op_of_loading hl
  have cut : (e.mod fun s => s.cutTransaction.modStore fun r => { r with trans := none }).s.store.op = some (.load got) := by
    rw [Ev.mod_s, State.modStore_store, State.cutTransaction_store]
    exact hop
  unfold Ev.transactionExpiry
  split
  · unfold Ev.timedOut
    dsimp only
    rw [cut]
    exact loadEnd _ _ _
  · exact fun _ => h

/-- R192: no expiry that comes while the configuration is loaded moves a section, but the one that ends the load. -/
theorem expiry (h : e.s.ColdLoad) (x : e.Expiry f) : f.s.ColdLoad := by
  cases hl : e.s.loading with
  | false => exact .of_not_loading hl (Ev.Edits.refl.expiry le_rfl x).state id
  | true =>
    have h := h hl
    have cold {f : Ev} (hf : f.s.SecsCold) : f.s.ColdLoad := fun _ => hf
    have same {f : Ev} (hf : f = e) : f.s.ColdLoad := by
      rw [hf]
      exact fun _ => h
    have aside {f : Ev} (k : e.Edits Part.Aside f) : f.s.ColdLoad := fun _ => h.edits k.state (fun _ => id) id
    cases x with
    | answered => exact transactionAnswered h hl
    | transaction => exact transactionExpiry h hl
    | closeConfirmTime i => exact same (by simp [Ev.closeConfirmTimeExpiry, State.sectionDue_of_cold (h i)])
    | sectionOpen i => exact same (by simp [Ev.sectionOpenExpiry, State.sectionDue_of_cold (h i)])
    | sectionTrip i => exact same (by simp [Ev.sectionTripExpiry, State.sectionDue_of_cold (h i)])
    | stationClose => exact cold h.stationCloseExpiry
    | stationOpen => exact cold h.stationOpenExpiry
    | backupTrip => exact cold (.ite (fun _ => h.stationFails) fun _ => h)
    | stale i r => exact same (by cases r <;> simp [Ev.staleExpiry, h i, Sec.source, coldSec, coldSource, dueNow])
    | blind i => exact same (by simp [Ev.blindExpiry, h i, coldSec, coldSelector, dueNow])
    | deadTime i => exact same (by simp [Ev.deadTimeExpiry, h i, coldSec, coldReclose, dueNow])
    | hold i => exact same (by simp [Ev.holdExpiry, h i, coldSec, coldReclose, dueNow])
    | lineTest i => exact same (by simp [Ev.lineTestExpiry, h i, coldSec, coldReclose])
    | reclaim i => exact same (by simp [Ev.reclaimExpiry, h i, coldSec, coldReclose])
    | window n => exact cold (h.windowExpiry n)
    | admission v => exact aside (Ev.Edits.refl.admissionExpiry Part.ofTraffic_le_aside v)
    | silence v => exact aside (Ev.Edits.refl.silenceExpiry Part.ofTraffic_le_aside v)
    | life p v => exact aside (Ev.Edits.refl.lifeExpiry (Part.ofPoint_le_aside p) v)
    | throwing p => exact aside (Ev.Edits.refl.throwExpiry (Part.ofPoint_le_aside p) trivial)
    | controlSilence => exact cold h.silenceTaken

theorem begun (h : d.s.ColdLoad) (b : d.Begun e) : e.s.ColdLoad := by
  induction b with
  | refl => exact h
  | tail _ a ih =>
    rcases a with a | rfl
    · exact ih.edits (Ev.Edits.refl.admin (T := Part.Aside) le_rfl a).state (fun _ => id) id
    · exact ih.edits (Ev.controlHeard_edits _) (fun _ => id) id

theorem ran (h : d.s.ColdLoad) (b : d.Ran e) : e.s.ColdLoad := by
  obtain ⟨f, g, hb, order, admins⟩ := b
  have after : g.s.ColdLoad := by
    rcases order with rfl | ⟨hl, o | o⟩
    · exact h.begun hb
    · exact .of_not_loading hl (Ev.Edits.refl.order (T := (· ≠ .whole)) (fun k hk => by rintro rfl; exact hk) (.inl nofun) o).state
        (fun x => x rfl)
    · cases o with
      | clearCounters =>
        intro x
        rw [show (f.mod State.clearCounters).s.loading = f.s.loading from rfl, hl] at x
        cases x
      | restartCold tag => exact fun _ => State.coldStart_sec _ _ _
      | restartWarm tag => exact .of_not_loading rfl (Ev.Edits.warmEffects (T := Part.All) le_rfl f tag).state id
  exact after.edits (Ev.Edits.refl.admins (T := Part.Aside) le_rfl admins).state (fun _ => id) id

theorem finish (h : e.s.ColdLoad) : e.finish.ColdLoad := by
  cases hl : e.s.loading with
  | false => exact .of_not_loading hl (Ev.edits_finish (T := Part.All) le_rfl e) id
  | true =>
    have settled : e.Edits Part.Aside e.settle := by
      unfold Ev.settle
      rw [(h hl).blindPass]
      exact (Ev.Edits.refl.supplyNotices (fun _ => trivial) trivial).serveMarked fun p => Part.queue_le (Part.ofPoint_le_aside p)
    refine h.edits (settled.state.trans ?_) (fun _ => id) id
    exact List.foldlRecOn (motive := e.settle.s.Edits Part.Aside) _ _ (.pushAll trivial .refl _)
      fun _ k _ _ => .pushNormal trivial k _

end
end State.ColdLoad

/-! ### Steps -/

theorem State.hold_lawful {s : State} (h : s.Lawful) : s.hold.Lawful := by
  have ended : s.cutTransaction.endOperation.AllLawful :=
    ((State.Edits.refl.cutTransaction trivial).endOperation trivial).allLawful (T := Part.Aside) h.sections (fun _ => id) id id id
  refine ⟨fun i => (ended i).of_view ?_, nofun⟩
  simp [State.hold, State.releaseAllLines, State.lawView, State.sec, State.secEntry]

theorem State.coldStart_lawful (s : State) (cause : RestartCause) (tag : Option Byte) : (s.coldStart cause tag).Lawful :=
  State.lawful_of_cold (State.coldStart_sec s cause tag)

/-- A write that reaches no section, not the station and no table. -/
theorem State.Lawful.edits {T : Part → Prop} {s t : State} (h : s.Lawful) (e : s.Edits T t) (h1 : ∀ i, ¬T (.sec i))
    (h2 : ¬T .station) (h3 : ¬T .tables) (h4 : ¬T .whole) : t.Lawful :=
  ⟨e.allLawful h.sections h1 h2 h3 h4, State.ColdLoad.edits h.loading e h1 h4⟩

theorem State.Lawful.of_same {s t : State} (h : s.Lawful) (hx : t.secs = s.secs) (ht : t.station = s.station)
    (hb : t.tables = s.tables) (ho : t.store = s.store) : t.Lawful := by
  have sec (i : SecNo) : t.sec i = s.sec i := State.sec_eq _ _ hx i
  refine ⟨fun i => (h.sections i).of_view ?_, fun x i => (sec i).trans (h.loading ?_ i)⟩
  · simp only [State.lawView, State.secEntry, sec, ht, hb]
  · simpa only [State.loading, ho] using x

theorem State.Stepped.lawful {s t : State} (h : s.Stepped t) (hs : s.Lawful) : t.Lawful := by
  cases h with
  | stays => exact hs
  | port l h => exact hs.edits h (fun _ => nofun) nofun nofun nofun
  | @ran e h =>
    have law : e.s.AllLawful := State.AllLawful.ran (d := .start s) hs.sections h
    have cold : e.s.ColdLoad := State.ColdLoad.ran (d := .start s) hs.loading h
    exact ⟨law.finish, cold.finish⟩
  | @expired e h =>
    have law : e.s.AllLawful := State.AllLawful.expiry (e := .start s) hs h
    have cold : e.s.ColdLoad := State.ColdLoad.expiry (e := .start s) hs.loading h
    exact ⟨law.finish, cold.finish⟩
  | dayRollover => exact hs.edits (T := Part.Aside) (State.Edits.refl.dayRollover trivial) (fun _ => id) id id id
  | supplyReturns cause =>
    unfold State.supplyReturns
    dsimp only
    split
    · exact State.hold_lawful (hs.of_same rfl rfl rfl rfl)
    · exact State.coldStart_lawful _ _ _
  | supplyFails | assertReset =>
    exact (State.hold_lawful hs).of_same rfl rfl rfl rfl
  | releaseReset =>
    unfold State.releaseReset
    split
    · dsimp only
      split
      · exact State.coldStart_lawful _ _ _
      · exact hs.of_same rfl rfl rfl rfl
    · exact hs

end Sys2Proof.Machine

section

open Sys2Proof Sys2Proof.Machine

/-- Settles O4: each operation of a section keeps the law of that section and leaves the law of every other as it is; the
station's own operations leave its position or move every section with it; while the configuration is loaded no section
moves from its cold-restart values. -/
theorem everyStepKeepsTheLawOfLive : Obligations.EveryStepKeepsTheLawOfLive := by
  intro s t hs h
  rcases stepped_of_step h with rfl | ⟨rest, stepped⟩
  · exact hs.of_same rfl rfl rfl rfl
  · exact stepped.lawful (hs.of_same rfl rfl rfl rfl)

end

/-! SUPPORT. What a command that is an event leaves behind, where the event is known to be quiet: an event that began in one
state and stands in another is `Ev.between`, and its end queues its reports and answers and no more. -/

namespace Sys2Proof.Machine

open Sys2Proof

/-- An event that began in `s` and stands in `t`, with nothing to report beside the changes. -/
def Ev.between (s t : State) : Ev := (Ev.start s).mod fun _ => t

section
variable (s t : State)

@[simp] theorem Ev.between_s : (Ev.between s t).s = t := rfl

@[simp] theorem Ev.between_old : (Ev.between s t).old = s := rfl

@[simp] theorem Ev.between_mod (f : State → State) : (Ev.between s t).mod f = Ev.between s (f t) := rfl

theorem Ev.start_mod (f : State → State) : (Ev.start s).mod f = Ev.between s (f s) := rfl

end

/-! ### Commands that are events -/

section
variable {s : State} {r : Req} {code : Byte}

theorem State.event_of_up (h : s.held = false) (f : Ev → Ev) : s.event f = .next (f (Ev.start s)).finish := by
  simp [State.event, State.running, h]

theorem State.delivery_of_working (h : s.Working) (f : Ev → Ev) : s.delivery f = .next (f (Ev.start s)).finish := by
  obtain ⟨up, loaded⟩ := h
  simp [State.delivery, State.running, up, loaded]

/-- R183, R184: a COMMAND that is taken is counted, carried out and answered. -/
theorem State.event_command (hw : s.Working) (hm : s.mayCommand r = true) (f : Ev → Ev × Result) :
    s.event (fun e => e.command r code f) = .next
      (((f (Ev.between s s.countCommand)).1.answer r.line
        (answerTelegram s.settings.own r kCommandResult code (f (Ev.between s s.countCommand)).2 [])).finish) := by
  obtain ⟨up, loaded⟩ := hw
  rw [State.event_of_up up]
  simp only [Ev.command, Ev.start_s, loaded, hm, if_true, Bool.false_eq_true, if_false]
  rfl

/-- R183, R184: a management request that is taken is counted and carried out, and answered now where it has an answer. -/
theorem State.event_request (hw : s.Working) (hm : s.mayManage r = true) (f : Ev → Ev × Option Answer) :
    s.event (fun e => e.request r code f) = .next
      (match f (Ev.between s s.countRequest) with
        | (e, none) => e.finish
        | (e, some a) => (e.answer r.line (answerTelegram s.settings.own r kMgReply code a.1 a.2)).finish) := by
  obtain ⟨up, loaded⟩ := hw
  rw [State.event_of_up up]
  simp only [Ev.request, Ev.start_s, loaded, hm, if_true, Bool.false_eq_true, if_false]
  change Host.Outcome.next (Ev.finish (match f (Ev.between s s.countRequest) with
    | (e, res) => match res with
      | none => e
      | some a => e.answer r.line (answerTelegram s.settings.own r kMgReply code a.1 a.2))) = _
  generalize f (Ev.between s s.countRequest) = x
  obtain ⟨e, _ | a⟩ := x <;> rfl

end

/-! ### The end of an event -/

/-- R59: no BLIND decision is given to a section that did not change its state, that is not BLIND and overdue, or that stands
in a state in which none is acted on; the mode being as it was. -/
theorem Ev.blindPass_of_settled (e : Ev) (hm : e.s.mode = e.old.mode)
    (h : ∀ i, (e.s.sec i).ctl.state = (e.old.sec i).ctl.state ∨ e.s.NotBlindOverdue i ∨
      (e.s.sec i).ctl.state.trippable = false) : e.blindPass = e := by
  refine e.forSecs_id _ fun i => ?_
  rcases h i with h | (h | h) | h
  · simp [hm, h]
  · simp [h]
  · simp [h]
  · simp [Ev.blindDecision, h]

/-- What the end of an event writes where no BLIND decision is given. -/
def Part.AtEnd : Part → Prop
  | .supply _ | .heads | .point _ | .supervisor | .normal _ => True
  | _ => False

theorem Part.ofQueue_le_atEnd (p : PointNo) : Part.OfQueue p ≤ Part.AtEnd := by
  intro k hk
  unfold Part.OfQueue at hk
  split at hk <;> trivial

theorem Ev.finish_edits {e : Ev} (h : e.blindPass = e) : e.s.Edits Part.AtEnd e.finish := by
  have settled : e.s.Edits Part.AtEnd e.settle.s := by
    unfold Ev.settle
    rw [h]
    exact ((Ev.Edits.refl.supplyNotices (fun _ => trivial) trivial).serveMarked Part.ofQueue_le_atEnd).state
  exact settled.trans (List.foldlRecOn (motive := e.settle.s.Edits Part.AtEnd) _ _ (.pushAll trivial .refl _)
    fun _ k _ _ => .pushNormal trivial k _)

/-- The end of an event in which each point has been told its supply: the reports and the answers are queued. -/
theorem Ev.finish_of_settled {e : Ev} (hb : e.blindPass = e) (ht : e.s.SuppliesTold) (hs : e.serve = []) :
    e.finish = e.answers.foldl (fun s a => s.pushNormal a.1 a.2) (e.s.pushAll .control e.reports) := by
  unfold Ev.finish Ev.settle
  rw [hb, e.supplyNotices_of_told ht, e.serveMarked_of_none hs]

section
variable {s t : State}

/-- The tables, the points and the sections' states decide whether the points have been told. -/
theorem State.SuppliesTold.of_same (h : s.SuppliesTold) (hb : t.tables = s.tables) (hp : t.points = s.points)
    (hs : t.secs = s.secs) : t.SuppliesTold := fun p =>
  State.Told.of_eq (h p) (congrArg _ (State.point_eq _ _ hp p)) (fun i => by rw [State.sec_eq _ _ hs i]) hb

/-- An event that changed no section, station or point. -/
theorem Ev.between_finish (hm : t.mode = s.mode) (hs : t.secs = s.secs) (hst : t.station = s.station)
    (hp : t.points = s.points) (ht : t.SuppliesTold) : (Ev.between s t).finish = t :=
  Ev.finish_of_still (Ev.between s t) hm hs hst hp ht rfl rfl rfl rfl

/-- The same, with an answer. -/
theorem Ev.between_answer_finish (hm : t.mode = s.mode) (hs : t.secs = s.secs) (hst : t.station = s.station)
    (hp : t.points = s.points) (ht : t.SuppliesTold) (l : Line) (m : Telegram) :
    ((Ev.between s t).answer l m).finish = t.pushNormal l m :=
  Ev.finish_of_still ((Ev.between s t).answer l m) hm hs hst hp ht rfl rfl rfl rfl

end

end Sys2Proof.Machine

/-! SUPPORT. Cold restarts, the release of the trip lines, and the store after an interrupted write. -/

namespace Sys2Proof.Machine

open Sys2Proof

section
variable {s : State}

theorem State.cutTransaction_of_no_write (h : ∀ a bs x, s.store.trans ≠ some (.write a bs, x)) : s.cutTransaction = s := by
  unfold State.cutTransaction
  split
  · rename_i a bs x hx
    exact absurd hx (h a bs x)
  · rfl

theorem State.cutTransaction_of_write {a : Nat} {bs : List Byte} {x : Expiry} (h : s.store.trans = some (.write a bs, x)) :
    s.cutTransaction = s.commitSome a bs := by
  unfold State.cutTransaction
  rw [h]

/-- R179: the state after a cold restart, no write transaction being outstanding. -/
theorem State.coldStart_of_no_write (h : ∀ a bs x, s.store.trans ≠ some (.write a bs, x)) (cause : RestartCause)
    (tag : Option Byte) : s.coldStart cause tag = { State.reset with
      supplyUp := s.supplyUp, resetLine := s.resetLine, modeRec := coldMode cause tag, storeMem := s.storeMem,
      freeCount := s.freeCount, pending := s.pending } := by
  unfold State.coldStart
  rw [State.cutTransaction_of_no_write h]

theorem State.supplyReturns_of_no_write (h : ∀ a bs x, s.store.trans ≠ some (.write a bs, x)) (hr : s.resetLine = false)
    (cause : RestartCause) : s.supplyReturns cause = { State.reset with
      modeRec := coldMode cause none, storeMem := s.storeMem, freeCount := s.freeCount, pending := s.pending } := by
  unfold State.supplyReturns
  rw [if_neg (by simp [hr]), State.coldStart_of_no_write (s := { s with supplyUp := true }) h]
  simp [hr, State.reset]

theorem State.hold_of_no_write (h : ∀ a bs x, s.store.trans ≠ some (.write a bs, x)) : s.hold = { s with
    store := { s.store with op := none, requester := none, trans := none }, station := { s.station with tripLine := false },
    secs := s.secs.map fun x => { x with ctl := { x.ctl with tripLine := false } } } := by
  unfold State.hold
  rw [State.cutTransaction_of_no_write h]
  rfl

/-- An event that is a cold restart ends at once. -/
theorem Ev.start_finish {s : State} (h : s.SuppliesTold) : (Ev.start s).finish = s :=
  Ev.finish_of_still (Ev.start s) rfl rfl rfl rfl h rfl rfl rfl rfl

end

/-! ### A write that ends early -/

/-- R191: a run of which some bytes are written leaves every address outside it alone. -/
theorem readCell_writeSome_of_outside (done : Nat → Bool) (bs : List Byte) : ∀ {cs : Cells} (a k x : Nat),
    Memory.wf cs = true → x < a ∨ a + bs.length ≤ x → readCell x (writeSome cs done a k bs) = readCell x cs := by
  induction bs with
  | nil => exact fun _ _ _ _ _ => rfl
  | cons b bs ih =>
    intro cs a k x h hx
    rw [List.length_cons] at hx
    have other : x ≠ a := by omega
    have rest {cs : Cells} (h : Memory.wf cs = true) := ih (cs := cs) (a + 1) (k + 1) x h (by omega)
    rw [writeSome]
    split
    · rw [rest (Memory.wf_writeByte a b h), readCell_writeByte h, if_neg fun y => other y.1]
    · exact rest h

/-- R191: a byte of a run of which some bytes are written is as it was, or the one written there. -/
theorem readCell_writeSome (done : Nat → Bool) (bs : List Byte) : ∀ {cs : Cells} (a k x : Nat), Memory.wf cs = true →
    readCell x (writeSome cs done a k bs) = readCell x cs ∨
      ∃ j, j < bs.length ∧ x = a + j ∧ readCell x (writeSome cs done a k bs) = bs.getD j 0 := by
  induction bs with
  | nil => exact fun _ _ _ _ => .inl rfl
  | cons b bs ih =>
    intro cs a k x h
    rw [writeSome]
    by_cases written : done k = true
    · rw [if_pos written]
      have first := readCell_writeByte h a x b
      rcases ih (a + 1) (k + 1) x (Memory.wf_writeByte a b h) with same | ⟨j, hj, hx, hr⟩
      · by_cases here : x = a ∧ a < storeSize
        · rw [if_pos here] at first
          exact .inr ⟨0, by simp, here.1, same.trans first⟩
        · rw [if_neg here] at first
          exact .inl (same.trans first)
      · exact .inr ⟨j + 1, by simpa using hj, by omega, by simpa using hr⟩
    · rw [if_neg written]
      rcases ih (a + 1) (k + 1) x h with same | ⟨j, hj, hx, hr⟩
      · exact .inl same
      · exact .inr ⟨j + 1, by simpa using hj, by omega, by simpa using hr⟩

/-- R7, R179: the supply and the reset line leave the contents of the store as the interrupted transaction left them. -/
theorem State.storeMem_of_interruption {s t : State} {c : Instr} {a : Nat} {bs : List Byte} {x : Expiry}
    (hc : c ∈ [.powerOn, .supplyDip, .supplyFailure, .resetLineAsserted]) (h : exec c s = .next t)
    (hw : s.store.trans = some (.write a bs, x)) :
    t.storeMem = writeSome s.storeMem (Config.writtenOfRun s.freeCount) a 0 bs := by
  have cut : s.cutTransaction.storeMem = writeSome s.storeMem (Config.writtenOfRun s.freeCount) a 0 bs := by
    rw [State.cutTransaction_of_write hw]
    rfl
  have returned (cause : RestartCause) :
      (s.supplyReturns cause).storeMem = writeSome s.storeMem (Config.writtenOfRun s.freeCount) a 0 bs := by
    have up : ({ s with supplyUp := true } : State).cutTransaction.storeMem =
        writeSome s.storeMem (Config.writtenOfRun s.freeCount) a 0 bs := by
      rw [State.cutTransaction_of_write (s := { s with supplyUp := true }) hw]
      rfl
    unfold State.supplyReturns
    dsimp only
    split <;> exact up
  simp only [List.mem_cons, List.not_mem_nil, or_false] at hc
  rcases hc with rfl | rfl | rfl | rfl <;> cases h
  · exact returned _
  · exact returned _
  · exact cut
  · exact cut

end Sys2Proof.Machine

section

open Sys2Proof Sys2Proof.Machine

/-- Settles O9: each of the four ways to a cold restart comes to `State.coldStart`. -/
theorem coldRestartTakesEveryColdValue : Obligations.ColdRestartTakesEveryColdValue := by
  intro s idle
  refine ⟨fun low => ⟨?_, ?_⟩, fun asserted up => ?_, fun r working may free => ?_⟩
  · exact congrArg Host.Outcome.next (State.supplyReturns_of_no_write idle low _)
  · exact congrArg Host.Outcome.next (State.supplyReturns_of_no_write idle low _)
  · refine congrArg Host.Outcome.next ?_
    rw [State.releaseReset, if_pos asserted]
    dsimp only
    rw [if_pos up, State.coldStart_of_no_write (s := { s with resetLine := false }) idle]
    simp [up, State.reset]
  · have pins : s.supplyUp = true ∧ s.resetLine = false := by simpa [State.held] using working.1
    have arm : exec (.restartCold r) s = s.event fun e => e.reqRestartCold r := rfl
    rw [arm]
    unfold Ev.reqRestartCold
    rw [State.event_request working may]
    simp only [Ev.between_s, free, Option.isSome_none, Bool.false_eq_true, if_false]
    rw [Ev.start_finish (State.coldStart_suppliesTold _ _ _), State.coldStart_of_no_write (s := s.countRequest) idle]
    simp [pins, State.reset]

/-- Settles O10, by the state in which the part is held. -/
theorem supplyFailureAndResetLineReleaseTheTripLines : Obligations.SupplyFailureAndResetLineReleaseTheTripLines := by
  intro s idle
  have held := State.hold_of_no_write idle
  refine ⟨congrArg Host.Outcome.next ?_, congrArg Host.Outcome.next ?_⟩
  · rw [State.supplyFails, held]
  · rw [State.assertReset, held]

/-- Settles O11: the interrupted transaction writes some bytes of its run, and nothing after it writes the store. -/
theorem interruptedWriteTouchesOnlyItsRun : Obligations.InterruptedWriteTouchesOnlyItsRun := by
  intro s a bs x c t canonical write hc h y
  rw [State.storeMem_of_interruption hc h write]
  exact ⟨readCell_writeSome_of_outside _ bs a 0 y canonical, readCell_writeSome _ bs a 0 y canonical⟩

end

/-! SUPPORT. The line ports: what a byte, a gap, an expiry and the end of a transmission make of a port. -/

namespace Sys2Proof.Machine

open Sys2Proof

/-! ### One port -/

section
variable {s : State} {l : Line}

theorem State.running_of_up (h : s.held = false) (f : State → State) : s.running f = .next (f s) := by
  simp [State.running, h]

/-- A change of a port goes by what it makes of that port. -/
theorem State.modPort_congr {f g : Port → Port} (h : f (s.port l) = g (s.port l)) : s.modPort l f = s.modPort l g := by
  cases l with
  | field => exact congrArg (fun p => { s with fieldPort := p }) h
  | control => exact congrArg (fun p => { s with controlPort := p }) h

theorem State.modPort_same {f : Port → Port} (h : f (s.port l) = s.port l) : s.modPort l f = s := by
  cases l with
  | field => exact congrArg (fun p => { s with fieldPort := p }) h
  | control => exact congrArg (fun p => { s with controlPort := p }) h

@[simp] theorem State.modPort_modPort (s : State) (l : Line) (f g : Port → Port) :
    (s.modPort l f).modPort l g = s.modPort l fun p => g (f p) := by cases l <;> rfl

/-- What changes a port alone is the write of the port it leaves. -/
theorem State.modPort_eq_const (s : State) (l : Line) (f : Port → Port) :
    s.modPort l f = s.modPort l fun _ => (s.modPort l f).port l :=
  State.modPort_congr (by rw [State.port_modPort_self])

@[simp] theorem State.settings_modPort (s : State) (l : Line) (f : Port → Port) : (s.modPort l f).settings = s.settings := by
  cases l <;> rfl

/-- R155: the offer depends on the link state and the resolved rate. -/
theorem State.offer_modPort (s : State) (l : Line) {f : Port → Port} (hl : (f (s.port l)).link = (s.port l).link)
    (hr : (f (s.port l)).resolved = (s.port l).resolved) : (s.modPort l f).offer l = s.offer l := by
  simp [State.offer, State.telegram, State.ability, hl, hr]

theorem State.sendOffer_of_free (h : (s.port l).tx = none) (further : Bool) :
    s.sendOffer l further = s.modPort l fun p => { p with tx := some ⟨Telegram.frame (s.offer l), further⟩ } := by
  unfold State.sendOffer
  rw [h]

/-- A change of rate touches the receiver alone. -/
theorem Port.setRate_rate (p : Port) (r : Rate) : (p.setRate r).rate = r := by
  unfold Port.setRate
  split
  · assumption
  · rfl

section
variable (p : Port) (r : Rate)

theorem Port.setRate_buffer : (p.setRate r).buffer = p.buffer := by
  unfold Port.setRate
  split <;> rfl

theorem Port.setRate_urgent : (p.setRate r).urgent = p.urgent := by
  unfold Port.setRate
  split <;> rfl

theorem Port.setRate_normal : (p.setRate r).normal = p.normal := by
  unfold Port.setRate
  split <;> rfl

theorem Port.setRate_counters : (p.setRate r).counters = p.counters := by
  unfold Port.setRate
  split <;> rfl

end

/-! ### Bytes and gaps -/

theorem State.byteArrives_of_deaf (h : (s.port l).rx = .waitingGap ∨ (s.port l).rx = .babble) (b : Byte) :
    s.byteArrives l b = s := by
  unfold State.byteArrives
  rcases h with h | h <;> simp only [h]

theorem State.byteArrives_of_sync (h : (s.port l).rx = .ready) :
    s.byteArrives l sync = s.modPort l fun p => { p with rx := .receiving, rxBytes := [], rxRun := 1, rxTail := false } := by
  unfold State.byteArrives
  simp [h]

theorem State.byteArrives_of_noise (h : (s.port l).rx = .ready) {b : Byte} (hb : b ≠ sync) :
    s.byteArrives l b = s.modPort l fun p => { p.spoil with rxRun := 1 } := by
  unfold State.byteArrives
  simp [h, hb]

theorem State.byteArrives_of_skipping (h : (s.port l).rx = .skipping) (hr : (s.port l).rxRun < 64) (b : Byte) :
    s.byteArrives l b = s.modPort l fun p => { (if p.rxTail then p.spoil else p) with rxRun := p.rxRun + 1 } := by
  unfold State.byteArrives
  simp [h, babbleLimit, Nat.not_le.mpr hr]

theorem State.byteArrives_of_receiving (h : (s.port l).rx = .receiving) (hr : (s.port l).rxRun < 64) (b : Byte) :
    s.byteArrives l b =
      (s.modPort l fun p => { p with rxRun := p.rxRun + 1 }).receiveByte l ((s.port l).rxBytes ++ [b]) := by
  unfold State.byteArrives
  simp [h, babbleLimit, Nat.not_le.mpr hr]

/-- R163: the byte that would be the 65th. -/
theorem State.byteArrives_of_babble (h : (s.port l).rx = .receiving ∨ (s.port l).rx = .skipping)
    (hr : 64 ≤ (s.port l).rxRun) (b : Byte) : s.byteArrives l b = s.modPort l Port.cutOff := by
  unfold State.byteArrives
  rcases h with h | h <;> simp [h, babbleLimit, hr]

end

end Sys2Proof.Machine

section

open Sys2Proof Sys2Proof.Machine

/-- Settles O14, by the receiver's state. -/
theorem byteOutsideATelegram : Obligations.ByteOutsideATelegram := by
  intro l b s up
  have arm : exec (.byteArrives l b) s = .next (s.byteArrives l b) := State.running_of_up up fun s => s.byteArrives l b
  rw [arm]
  refine ⟨fun deaf => ?_, fun ready hb => ?_, fun ready hb => ?_, fun skipping short tail => ?_, fun skipping short tail => ?_⟩
  · rw [State.byteArrives_of_deaf deaf]
  · rw [hb]
    exact congrArg _ (State.byteArrives_of_sync ready)
  · rw [State.byteArrives_of_noise ready hb]
    rfl
  · rw [State.byteArrives_of_skipping skipping short]
    exact congrArg _ (State.modPort_congr (by simp [tail]))
  · rw [State.byteArrives_of_skipping skipping short]
    exact congrArg _ (State.modPort_congr (by simp [tail, Port.spoil]))

/-- Settles O15, by the receiver's state and the length of the gap. -/
theorem babbleAndIdleGaps : Obligations.BabbleAndIdleGaps := by
  intro l b n s up gap
  have cutoff : exec (.babbleCutoff l) s = .next (s.babbleCutoff l) := State.running_of_up up fun s => s.babbleCutoff l
  have byte : exec (.byteArrives l b) s = .next (s.byteArrives l b) := State.running_of_up up fun s => s.byteArrives l b
  have idle : exec (.idleGap l n) s = .next (s.idleGap l n) := State.running_of_up up fun s => s.idleGap l n
  have long : ¬n < gapByteTimes := Nat.not_lt.mpr gap
  rw [cutoff, byte, idle]
  unfold State.babbleCutoff State.idleGap
  rw [if_neg long]
  refine ⟨fun open_ => ⟨congrArg _ (State.modPort_congr ?_), fun full => ?_⟩, fun atEnd => congrArg _ (State.modPort_congr ?_),
    fun receiving => congrArg _ (State.modPort_congr ?_), fun babble short => congrArg _ (State.modPort_same ?_)⟩
  · rcases open_ with h | h <;> simp only [h] <;> rfl
  · rw [State.byteArrives_of_babble open_ full]
    rfl
  · rcases atEnd with h | h | h | ⟨h, long⟩
    · simp only [h]
      rfl
    · simp only [h]
      rfl
    · simp only [h]
      rfl
    · simp only [h]
      rw [if_neg (show ¬n < babbleGapByteTimes from Nat.not_lt.mpr long)]
      rfl
  · simp only [receiving]
    rfl
  · simp only [babble]
    rw [if_pos (show n < babbleGapByteTimes from short)]

/-- Settles O17: each expiry that is due changes the port alone. -/
theorem linkExpiries : Obligations.LinkExpiries := by
  intro l s up
  refine ⟨fun link due free => ?_, fun link due => ?_, fun link due => ?_⟩
  · have arm : exec (.offerExpiry l) s = .next (s.offerExpiry l) := State.running_of_up up fun s => s.offerExpiry l
    rw [arm]
    unfold State.offerExpiry
    rw [if_pos ⟨link, due⟩, State.sendOffer_of_free (by simpa using free), State.offer_modPort _ _ rfl rfl, State.modPort_modPort]
    rfl
  · have arm : exec (.partnerExpiry l) s = .next (s.partnerExpiry l) := State.running_of_up up fun s => s.partnerExpiry l
    rw [arm]
    unfold State.partnerExpiry
    rw [if_pos ⟨link, due⟩]
  · have arm : exec (.quietExpiry l) s = .next (s.quietExpiry l) := State.running_of_up up fun s => s.quietExpiry l
    have entered : s.quietExpiry l = s.modPort l fun p => p.enterNegotiating s.partTime := if_pos ⟨link, due⟩
    refine ⟨_, arm, ?_⟩
    rw [entered]
    simp only [State.port_modPort_self]
    exact ⟨rfl, Port.setRate_rate _ _, rfl, rfl, rfl, rfl, rfl, rfl, rfl, rfl, Port.setRate_buffer _ _,
      Port.setRate_urgent _ _, Port.setRate_normal _ _, Port.setRate_counters _ _, State.modPort_congr rfl⟩

/-- Settles O18: the port that becomes UP keeps its buffer and its queues. -/
theorem furtherAckOfferMakesTheLinkUp : Obligations.FurtherAckOfferMakesTheLinkUp := by
  intro l s f r up link ack resolved sending
  have arm : exec (.ackOfferEnd l) s = .next (s.ackOfferEnd l) := State.running_of_up up fun s => s.ackOfferEnd l
  have agreed : s.ackOfferEnd l = s.modPort l fun p => { p.becomeAgreed s.partTime with tx := none } := by
    simp [State.ackOfferEnd, Port.sendingFurther, sending, link, ack]
  have port : (s.ackOfferEnd l).port l =
      { (s.port l).setRate r with
        link := .up, partner := some .agreed, upSince := some s.partTime, offerExp := none,
        quiet := some ⟨s.partTime, 3000⟩, offersWaiting := 0, furtherWaiting := false, tx := none } := by
    rw [agreed, State.port_modPort_self]
    simp only [Port.becomeAgreed, resolved]
    rfl
  refine ⟨_, arm, ?_⟩
  rw [port]
  refine ⟨rfl, Port.setRate_rate _ _, rfl, rfl, rfl, rfl, rfl, Port.setRate_buffer _ _, Port.setRate_urgent _ _,
    Port.setRate_normal _ _, ?_⟩
  rw [← port, agreed]
  exact State.modPort_eq_const _ _ _

/-- Settles O19, by the two queues. -/
theorem transmitterTakesTheUrgentQueueFirst : Obligations.TransmitterTakesTheUrgentQueueFirst := by
  intro l s up
  have arm : exec (.transmitTelegram l) s = .next (s.transmitTelegram l) := State.running_of_up up fun s => s.transmitTelegram l
  refine ⟨fun o os link urgent => ?_, fun t ts link urgent normal => ?_, fun f link sending offers further => ?_⟩
  · rw [arm]
    refine congrArg _ (State.modPort_congr ?_)
    simp only [link, if_true, Port.transmit, urgent]
  · rw [arm]
    refine congrArg _ (State.modPort_congr ?_)
    simp only [link, if_true, Port.transmit, urgent, normal]
  · have arm : exec (.transmitterFree l) s = .next (s.transmitterFree l) := State.running_of_up up fun s => s.transmitterFree l
    rw [arm]
    simp [State.transmitterFree, State.nextOffer, Port.sendingFurther, link, sending, offers, further]

end

/-! SUPPORT. Reception of a whole telegram: the bytes of a frame are read back, no shorter run of them is a telegram, and so
the receiver takes the frame as one telegram. -/

namespace Sys2Proof.Machine

open Sys2Proof

/-! ### Frames -/

/-- Chapter 12: the two bytes of a word, put together again. -/
theorem be16_toNat (w : BitVec 16) : ∃ h l : Byte, be16 w.toNat = [h, l] ∧ h ++ l = w := by
  refine ⟨_, _, rfl, BitVec.eq_of_toNat_eq ?_⟩
  have hw := w.isLt
  rw [BitVec.toNat_append, BitVec.toNat_ofNat, BitVec.toNat_ofNat, ← Nat.shiftLeft_add_eq_or_of_lt (Nat.mod_lt _ (by decide)),
    Nat.shiftLeft_eq]
  omega

theorem len_toNat {body : List Byte} (h : body.length ≤ 48) : (BitVec.ofNat 8 body.length).toNat = body.length := by
  rw [BitVec.toNat_ofNat, Nat.mod_eq_of_lt (by omega)]

/-- R162: the bytes after SYNC, of a telegram and its check word. -/
def wireBytes (tg : Telegram) (w : CheckWord) : List Byte := Telegram.covered tg ++ be16 w.toNat

theorem length_wireBytes (tg : Telegram) (w : CheckWord) : (wireBytes tg w).length = 6 + tg.body.length := by
  simp [wireBytes, Telegram.covered, be16]
  omega

theorem rxTelegramOf_wireBytes {tg : Telegram} (h : tg.body.length ≤ 48) (w : CheckWord) :
    rxTelegramOf (wireBytes tg w) = some ⟨tg, w⟩ := by
  obtain ⟨hi, lo, hb, hw⟩ := be16_toNat w
  unfold wireBytes Telegram.covered
  rw [hb]
  simp [rxTelegramOf, len_toNat h, hw]

/-- R162: fewer bytes than the telegram has are no telegram. -/
theorem rxTelegramOf_prefix {tg : Telegram} (h : tg.body.length ≤ 48) (w : CheckWord) {n : Nat}
    (hn : n < (wireBytes tg w).length) : rxTelegramOf ((wireBytes tg w).take n) = none := by
  rw [length_wireBytes] at hn
  match n with
  | 0 | 1 | 2 | 3 => rfl
  | n + 4 =>
    simp only [wireBytes, Telegram.covered, rxTelegramOf, len_toNat h, be16, List.cons_append, List.nil_append,
      List.take_succ_cons]
    rw [if_neg]
    simp
    omega

/-- R162: the fourth byte is LEN. -/
theorem wireBytes_len {tg : Telegram} (h : tg.body.length ≤ 48) (w : CheckWord) (n : Nat) (hn : 4 ≤ n) :
    ¬48 < (((wireBytes tg w).take n).getD 3 0).toNat := by
  obtain ⟨n, rfl⟩ := Nat.exists_eq_add_of_le' hn
  simpa [wireBytes, Telegram.covered, len_toNat h] using h

theorem wholeFrame_wireBytes {tg : Telegram} (h : tg.body.length ≤ 48) (w : CheckWord) :
    wholeFrame (sync :: wireBytes tg w) = true := by
  have hl := length_wireBytes tg w
  have len : ((sync :: wireBytes tg w).getD 4 0).toNat = tg.body.length := by
    simp [wireBytes, Telegram.covered, len_toNat h]
  unfold wholeFrame
  rw [len, List.length_cons, hl]
  simp [h]
  omega

/-! ### Reception -/

section
variable {s : State} {l : Line} {tg : Telegram} {w : CheckWord}

/-- R162: the port that has taken all the bytes of a telegram. -/
def Port.taken (p : Port) (tg : Telegram) : Port :=
  { p with rx := .skipping, rxBytes := [], rxTail := true, rxRun := 7 + tg.body.length }

/-- R162: one more byte of a telegram. -/
theorem State.byteArrives_in_wire (h : tg.body.length ≤ 48) {n : Nat} (hn : n < (wireBytes tg w).length)
    (hrx : (s.port l).rx = .receiving) (hb : (s.port l).rxBytes = (wireBytes tg w).take n) (hr : (s.port l).rxRun = n + 1) :
    s.byteArrives l (wireBytes tg w)[n] =
      if n + 1 = (wireBytes tg w).length then (s.modPort l fun p => p.taken tg).completeTelegram l ⟨tg, w⟩
      else s.modPort l fun p => { p with rxRun := n + 2, rxBytes := (wireBytes tg w).take (n + 1) } := by
  have total := length_wireBytes tg w
  have more : (s.port l).rxBytes ++ [(wireBytes tg w)[n]] = (wireBytes tg w).take (n + 1) := by
    rw [hb, List.take_succ_eq_append_getElem hn]
  have len : ¬(((wireBytes tg w).take (n + 1)).length = 4 ∧ 48 < (((wireBytes tg w).take (n + 1)).getD 3 0).toNat) := by
    rintro ⟨four, big⟩
    exact wireBytes_len h w (n + 1) (four ▸ List.length_take_le _ _) big
  rw [State.byteArrives_of_receiving hrx (by omega), more, State.receiveByte, if_neg len]
  split
  case h_1 r hr' =>
    have last : n + 1 = (wireBytes tg w).length := by
      by_contra short
      rw [rxTelegramOf_prefix h w (by omega)] at hr'
      cases hr'
    rw [last, List.take_length, rxTelegramOf_wireBytes h] at hr'
    rw [if_pos last, State.modPort_modPort, ← Option.some.inj hr']
    refine congrArg (State.completeTelegram · l _) (State.modPort_congr ?_)
    have count : n + 1 + 1 = 7 + tg.body.length := by omega
    simp only [Port.taken, hr, count]
  case h_2 hnone =>
    have short : n + 1 ≠ (wireBytes tg w).length := by
      intro last
      rw [last, List.take_length, rxTelegramOf_wireBytes h] at hnone
      cases hnone
    rw [if_neg short, State.modPort_modPort]
    exact State.modPort_congr (by rw [hr])

/-- R162: the rest of a telegram, of which the receiver holds the first `n` bytes. -/
theorem State.bytesArrive_wire (h : tg.body.length ≤ 48) : ∀ (m n : Nat) {s : State}, n + (m + 1) = (wireBytes tg w).length →
    (s.port l).rx = .receiving → (s.port l).rxBytes = (wireBytes tg w).take n → (s.port l).rxRun = n + 1 →
    s.bytesArrive l ((wireBytes tg w).drop n) = (s.modPort l fun p => p.taken tg).completeTelegram l ⟨tg, w⟩ := by
  intro m
  induction m with
  | zero =>
    intro n s hn hrx hb hr
    rw [List.drop_eq_getElem_cons (by omega), State.bytesArrive, List.foldl_cons,
      State.byteArrives_in_wire h (by omega) hrx hb hr, if_pos (by omega), List.drop_of_length_le (by omega)]
    rfl
  | succ m ih =>
    intro n s hn hrx hb hr
    rw [List.drop_eq_getElem_cons (by omega), State.bytesArrive, List.foldl_cons,
      State.byteArrives_in_wire h (by omega) hrx hb hr, if_neg (by omega)]
    change State.bytesArrive _ l _ = _
    rw [ih (n + 1) (by omega) (by simpa using hrx) (by simp) (by simp), State.modPort_modPort]
    rfl

/-- R162: a whole frame that finds the receiver READY. -/
theorem State.frameArrives_wire (h : tg.body.length ≤ 48) (hrx : (s.port l).rx = .ready) :
    s.frameArrives l (sync :: wireBytes tg w) = (s.modPort l fun p => p.taken tg).completeTelegram l ⟨tg, w⟩ := by
  have begun := State.byteArrives_of_sync hrx
  unfold State.frameArrives
  dsimp only
  rw [if_pos (wholeFrame_wireBytes h w)]
  simp only [hrx]
  rw [State.bytesArrive, List.foldl_cons, begun]
  have rest := State.bytesArrive_wire (w := w) (l := l) h (5 + tg.body.length) 0 (s := s.modPort l fun p =>
    { p with rx := .receiving, rxBytes := [], rxRun := 1, rxTail := false }) (by rw [length_wireBytes]; omega)
    (by simp) (by simp) (by simp)
  rw [List.drop_zero] at rest
  rw [State.bytesArrive] at rest
  rw [rest, State.modPort_modPort]
  rfl

end

/-! ### Offers -/

/-- R156: the resolved rate lies in both sets, or is 9600. -/
theorem resolveRate_allowed (own received : Byte) : resolveRate own received = .r9600 ∨
    allows own (resolveRate own received) = true ∧ allows received (resolveRate own received) = true := by
  unfold resolveRate
  split
  · exact .inr (Bool.and_eq_true_iff.mp ‹_›)
  split
  · exact .inr (Bool.and_eq_true_iff.mp ‹_›)
  split
  · exact .inr (Bool.and_eq_true_iff.mp ‹_›)
  · exact .inl rfl

/-- R156: no higher rate lies in both sets. -/
theorem resolveRate_highest {own received : Byte} {q : Rate} (ho : allows own q = true) (hr : allows received q = true) :
    q.bit ≤ (resolveRate own received).bit := by
  have both : (allows own q && allows received q) = true := by simp [ho, hr]
  unfold resolveRate
  split
  · cases q <;> decide
  rename_i top
  split
  · cases q with
    | r115200 => exact absurd both top
    | r9600 | r19200 | r57600 => decide
  rename_i second
  split
  · cases q with
    | r115200 => exact absurd both top
    | r57600 => exact absurd both second
    | r9600 | r19200 => decide
  rename_i third
  cases q with
  | r115200 => exact absurd both top
  | r57600 => exact absurd both second
  | r19200 => exact absurd both third
  | r9600 => decide

/-- R157: a port that takes a plain offer in NEGOTIATING. -/
def Port.acknowledging (p : Port) (now : PartTime) (r : Rate) (offer : Telegram) : Port :=
  { p with
    link := .acknowledging, resolved := some r, partner := none, ackReceived := false, partnerExp := none,
    quiet := some ⟨now, 3000⟩,
    offerExp := match p.offerExp with | some x => some x | none => some ⟨now, 100⟩,
    tx := some ⟨Telegram.frame offer, false⟩ }

/-- R157: a plain offer in NEGOTIATING, the transmitter being free. -/
theorem State.enterAcknowledging_of_free {s : State} {l : Line} (hr : (s.port l).rate = .r9600) (ht : (s.port l).tx = none)
    (r : Rate) : s.enterAcknowledging l r false =
      s.modPort l fun p => p.acknowledging s.partTime r (s.telegram 0 kLinkOffer [s.ability l, 1, r.code]) := by
  have rate : (s.port l).setRate .r9600 = s.port l := if_pos hr
  unfold State.enterAcknowledging
  rw [State.sendOffer_of_free (by rw [State.port_modPort_self]; dsimp only; rw [rate]; exact ht), State.modPort_modPort]
  refine State.modPort_congr ?_
  simp only [rate, Port.acknowledging, State.offer, State.port_modPort_self, State.telegram, State.ability,
    State.settings_modPort, linkQuiet, offerSpacing]
  rfl

end Sys2Proof.Machine

section

open Sys2Proof Sys2Proof.Machine

/-- Settles O20. -/
theorem framedTelegramReadsBack : Obligations.FramedTelegramReadsBack := by
  intro tg h
  refine ⟨⟨tg, crc (Telegram.covered tg)⟩, rxTelegramOf_wireBytes h _, rfl, ?_⟩
  simp [RxTelegram.valid]

/-- Settles O13: the frame is taken as one telegram, and the port does with it what its link state says. -/
theorem validTelegramGoesIntoTheBuffer : Obligations.ValidTelegramGoesIntoTheBuffer := by
  intro l tg w s up ready short
  have arm (w : CheckWord) : exec (.telegramReceived l (sync :: Telegram.covered tg ++ be16 w.toNat)) s =
      .next ((s.modPort l fun p => p.taken tg).completeTelegram l ⟨tg, w⟩) := by
    refine Eq.trans (State.running_of_up up fun s => s.frameArrives l (sync :: wireBytes tg w)) ?_
    rw [State.frameArrives_wire short ready]
  have good : (⟨tg, crc (Telegram.covered tg)⟩ : RxTelegram).valid = true := by simp [RxTelegram.valid]
  have stored (link : (s.port l).link = .up) (kind : tg.kind ≠ kLinkOffer) :
      (s.modPort l fun p => p.taken tg).completeTelegram l ⟨tg, crc (Telegram.covered tg)⟩ = s.modPort l fun p =>
        ({ p.taken tg with
          counters := { p.counters with valid := inc32 p.counters.valid }, quiet := some ⟨s.partTime, 3000⟩ } : Port).store
            ⟨tg, crc (Telegram.covered tg)⟩ := by
    simp [State.completeTelegram, good, kind, State.takeValid, State.hearLine, State.modCounters, Port.taken, link, linkQuiet]
  refine ⟨fun link kind room => ?_, fun link kind full => ?_, fun bad => ?_⟩
  · refine (arm (crc (Telegram.covered tg))).trans (congrArg _ ?_)
    rw [stored link kind]
    exact State.modPort_congr (if_pos room)
  · refine (arm (crc (Telegram.covered tg))).trans (congrArg _ ?_)
    rw [stored link kind]
    exact State.modPort_congr (if_neg (Nat.not_lt.mpr full))
  · have wrong : (⟨tg, w⟩ : RxTelegram).valid = false := by simp [RxTelegram.valid, Ne.symm bad]
    rw [arm, State.completeTelegram, if_neg (by simp [wrong]), State.modCounters, State.modPort_modPort]
    rfl

/-- Settles O16: the offer arrives as one telegram, is usable, and is acknowledged at the highest common rate. -/
theorem plainOfferBeginsAcknowledging : Obligations.PlainOfferBeginsAcknowledging := by
  intro l dst src ability rest s up ready link rate free set
  let tg : Telegram := ⟨dst, src, kLinkOffer, [ability, 0, rest]⟩
  let counted : State := s.modPort l fun p =>
    { p.taken tg with counters := { p.counters with valid := inc32 p.counters.valid } }
  let r := resolveRate (s.ability l) ability
  have good : (⟨tg, crc (Telegram.covered tg)⟩ : RxTelegram).valid = true := by simp [RxTelegram.valid]
  have usable : usableOffer [ability, 0, rest] = some (ability, none) := by
    simp [usableOffer, set]
  have own : counted.ability l = s.ability l := by simp [counted, State.ability]
  have taken : (s.modPort l fun p => p.taken tg).completeTelegram l ⟨tg, crc (Telegram.covered tg)⟩ =
      counted.enterAcknowledging l r false := by
    have count : (s.modPort l fun p => p.taken tg).modCounters l (fun c => { c with valid := inc32 c.valid }) = counted := by
      rw [State.modCounters, State.modPort_modPort]
      rfl
    have negotiating : (counted.port l).link = .negotiating := by simpa [counted, Port.taken] using link
    rw [State.completeTelegram, if_pos good, count]
    dsimp only [tg]
    rw [if_pos rfl, State.takeOffer, usable]
    simp only [State.offerTaken, negotiating, own, r]
  have port (t : State) (ht : t = counted.enterAcknowledging l r false) : t = s.modPort l fun p =>
      (({ p.taken tg with counters := { p.counters with valid := inc32 p.counters.valid } } : Port).acknowledging s.partTime r
        (s.telegram 0 kLinkOffer [s.ability l, 1, r.code])) := by
    rw [ht, State.enterAcknowledging_of_free (by simpa [counted, Port.taken] using rate)
      (by simpa [counted, Port.taken] using free), own]
    simp [counted, State.telegram]
  refine ⟨counted.enterAcknowledging l r false, r, ?_, resolveRate_allowed _ _, fun _ => resolveRate_highest, ?_⟩
  · refine Eq.trans (State.running_of_up up fun s => s.frameArrives l (sync :: wireBytes tg (crc (Telegram.covered tg)))) ?_
    rw [State.frameArrives_wire (by simp [tg]) ready, taken]
  · rw [port _ rfl, State.port_modPort_self]
    exact ⟨rfl, rfl, rfl, rfl, rfl, rfl, rate, rfl, rfl, rfl, State.modPort_congr rfl⟩

end

/-! SUPPORT. The traffic path: a telegram taken from a receive buffer, classified and disposed of. -/

namespace Sys2Proof.Machine

open Sys2Proof

section
variable {s : State} {l : Line} {r : RxTelegram} {rest : List RxTelegram}

/-- R138: the state in which the oldest telegram has left the buffer. -/
def State.dequeued (s : State) (l : Line) (rest : List RxTelegram) : State := s.modPort l fun p => { p with buffer := rest }

/-- R138: TAKE_TELEGRAM handles the oldest telegram of the buffer. -/
theorem exec_takeTelegram (h : s.held = false) (hb : (s.port l).buffer = r :: rest) :
    exec (.takeTelegram l) s = .next ((Ev.between s (s.dequeued l rest)).handle l r.tg).finish := by
  refine (State.running_of_up h fun s => s.takeTelegram l).trans ?_
  unfold State.takeTelegram
  rw [hb]
  rfl

@[simp] theorem State.dequeued_tables : (s.dequeued l rest).tables = s.tables := State.modPort_tables ..

@[simp] theorem State.dequeued_settings : (s.dequeued l rest).settings = s.settings := State.settings_modPort ..

@[simp] theorem State.dequeued_loading : (s.dequeued l rest).loading = s.loading := by
  simp [State.loading, State.dequeued]

/-- What the traffic path does to no block: the points have been told what they had been told. -/
theorem Ev.between_finish_of_traffic {t : State} (ht : s.SuppliesTold) (hm : t.modeRec = s.modeRec) (hs : t.secs = s.secs)
    (hst : t.station = s.station) (hp : t.points = s.points) (hb : t.tables = s.tables) : (Ev.between s t).finish = t :=
  Ev.between_finish (by simp only [State.mode, hm]) hs hst hp (ht.of_same hb hp hs)

theorem Ev.between_answer_finish_of_traffic {t : State} (ht : s.SuppliesTold) (hm : t.modeRec = s.modeRec)
    (hs : t.secs = s.secs) (hst : t.station = s.station) (hp : t.points = s.points) (hb : t.tables = s.tables) (k : Line)
    (m : Telegram) : ((Ev.between s t).answer k m).finish = t.pushNormal k m :=
  Ev.between_answer_finish (by simp only [State.mode, hm]) hs hst hp (ht.of_same hb hp hs) k m

/-- R138, R139, R140: what is not for the own station and not from the control station is classified. -/
theorem Ev.handle_classify {e : Ev} {t : Telegram} (hl : e.s.loading = false) (hd : t.dst ≠ e.s.settings.own)
    (hc : ¬(l = .control ∧ t.src = e.s.settings.control)) : e.handle l t = e.classify l t := by
  have mark : e.s.broadcastMark l t = false := by
    by_contra h
    simp only [State.broadcastMark, Bool.not_eq_false, Bool.and_eq_true, beq_iff_eq] at h
    exact hc ⟨h.1.2, h.2⟩
  unfold Ev.handle
  simp [hl, hc, hd, mark]

/-- R142: no entry matches. -/
theorem State.deciding_none (h : ∀ k : Fin 64, s.tables.binding[k].matches l r.tg = false) : s.deciding l r.tg = none := by
  refine List.find?_eq_none.mpr fun k _ => ?_
  simpa using h k

/-- R142: an entry matches by its flag and its enabled compare fields. -/
theorem Binding.matches_iff (b : Binding) (t : Telegram) : b.matches l t = true ↔
    b.active = true ∧ (b.line.1 = true → b.line.2 = l) ∧ (b.src.1 = true → b.src.2 = t.src) ∧
      (b.dst.1 = true → b.dst.2 = t.dst) ∧ (b.kind.1 = true → b.kind.2 = t.kind) ∧ (b.key.1 = true → b.key.2 = t.body.headD 0) := by
  simp only [Binding.matches, Telegram.key, Bool.and_eq_true, Bool.or_eq_true, Bool.not_eq_true', beq_iff_eq, and_assoc,
    ← Bool.not_eq_true, imp_iff_not_or]

/-- R142: the first entry, in ascending order, that matches. -/
theorem State.deciding_some {t : Telegram} {k : Fin 64}
    (h : ∀ j : Fin 64, j ≤ k → (j = k ↔ s.tables.binding[j].matches l t = true)) : s.deciding l t = some k := by
  refine List.find?_eq_some_iff_getElem.mpr ⟨(h k le_rfl).mp rfl, k, by simp, by simp, fun j hj => ?_⟩
  have before : (⟨j, by omega⟩ : Fin 64) < k := hj
  have unmatched := mt (h _ before.le).mpr before.ne
  simpa using unmatched

end

end Sys2Proof.Machine

section

open Sys2Proof Sys2Proof.Machine

/-- Settles O21: no entry decides, and the default disposition does what it says. -/
theorem unmatchedTelegramTakesTheDefaultDisposition : Obligations.UnmatchedTelegramTakesTheDefaultDisposition := by
  intro l r rest s working told buffer other source unmatched
  have classified : (Ev.between s (s.dequeued l rest)).handle l r.tg = (Ev.between s (s.dequeued l rest)).classify l r.tg :=
    Ev.handle_classify (by simpa using working.2) (by simpa using other) (by simpa using source)
  have undecided : (s.dequeued l rest).deciding l r.tg = none := State.deciding_none (by simpa using unmatched)
  rw [exec_takeTelegram working.1 buffer, classified, Ev.classify, Ev.between_s, undecided]
  refine ⟨fun forward => congrArg _ ?_, fun discard => congrArg _ ?_⟩
  · rw [if_pos (by simpa using forward), Ev.between_mod, Ev.between_finish_of_traffic told]
    · rfl
    all_goals simp [State.forward, State.countForwarded, State.modCounters, State.dequeued]
  · rw [if_neg (by simp [discard]), Ev.between_mod, Ev.between_finish_of_traffic told]
    · rw [State.countDiscarded, State.modCounters, State.dequeued, State.modPort_modPort]
    all_goals simp [State.countDiscarded, State.modCounters, State.dequeued]

/-- Settles O22: the entry found first is the one of the statement, and its disposition is carried out. -/
theorem decidingEntryForwardsOrDiscards : Obligations.DecidingEntryForwardsOrDiscards := by
  intro l r rest s k working told buffer other source first
  have classified : (Ev.between s (s.dequeued l rest)).handle l r.tg = (Ev.between s (s.dequeued l rest)).classify l r.tg :=
    Ev.handle_classify (by simpa using working.2) (by simpa using other) (by simpa using source)
  have decided : (s.dequeued l rest).deciding l r.tg = some k :=
    State.deciding_some fun j hj => (first j hj).trans (by rw [State.dequeued_tables, Binding.matches_iff])
  rw [exec_takeTelegram working.1 buffer, classified, Ev.classify, Ev.between_s, decided]
  have kept (f : BindCount → BindCount) : ((s.dequeued l rest).modBind k f).tables = s.tables := State.dequeued_tables
  refine ⟨fun forward => congrArg _ ?_, fun discard => congrArg _ ?_⟩
  · have rewritten (b : Binding) : b.rewritten r.tg = { r.tg with dst := b.rewrite.getD r.tg.dst } := by
      unfold Binding.rewritten
      split <;> rename_i hb <;> rw [hb] <;> rfl
    simp only [Ev.dispose, Ev.between_mod, Ev.between_s, kept, forward, rewritten]
    rw [Ev.between_finish_of_traffic told]
    · rfl
    all_goals simp [State.forward, State.countForwarded, State.modCounters, State.dequeued]
  · simp only [Ev.dispose, Ev.between_mod, Ev.between_s, kept, discard]
    rw [Ev.between_finish_of_traffic told]
    · rw [State.countDiscarded, State.modCounters, State.dequeued]
      cases l <;> rfl
    all_goals simp [State.countDiscarded, State.modCounters, State.dequeued]

/-- Settles O23: while loading, the telegram is passed through or answered. -/
theorem telegramsPassThroughWhileLoading : Obligations.TelegramsPassThroughWhileLoading := by
  intro l r rest s up loading told buffer
  have passed : (Ev.between s (s.dequeued l rest)).handle l r.tg = (Ev.between s (s.dequeued l rest)).passThrough l r.tg := by
    unfold Ev.handle
    simp [loading]
  rw [exec_takeTelegram up buffer, passed, Ev.passThrough]
  refine ⟨fun other => congrArg _ ?_, fun tag code args own kind body => congrArg _ ?_⟩
  · rw [if_neg (by simpa using other), Ev.between_mod, Ev.between_finish_of_traffic told]
    · rfl
    all_goals simp [State.forward, State.countForwarded, State.modCounters, State.dequeued]
  · rw [if_pos (by simpa using own), if_pos kind, Ev.notReady, Ev.between_mod, Ev.between_answer_finish_of_traffic told]
    · rw [State.countConsumed, State.modCounters, State.dequeued, State.modPort_modPort, body]
      simp [answerTelegram]
      rfl
    all_goals simp [State.countConsumed, State.modCounters, State.dequeued]

end

/-! SUPPORT. The control-silence expiry, the clearing of the counters and the store requests. -/

namespace Sys2Proof.Machine

open Sys2Proof

theorem Ev.blindPass_of_none (e : Ev) (h : ∀ i, e.s.NotBlindOverdue i) : e.blindPass = e := by
  refine e.forSecs_id _ fun i => ?_
  rcases h i with h | h <;> simp [h]

/-- R65: a change of mode acts on no section that is in none of the two phases. -/
theorem Ev.modeActsOn_of_untied {e : Ev} {i : SecNo} (m : Mode) (hg : (e.s.sec i).rcl.phase ≠ .gating)
    (ht : m = .observe → (e.s.sec i).rcl.phase ≠ .testing) : e.modeActsOn m i = e := by
  cases m with
  | observe => simp [Ev.modeActsOn, hg, ht rfl]
  | autonomous => simp [Ev.modeActsOn, hg]
  | active => rfl

/-- R174: AUTONOMOUS is entered from ACTIVE where no section waits for its gates. -/
theorem Ev.enterAutonomous_of_quiet {s t : State} (hm : t.mode = .active) (h : ∀ i, (t.sec i).rcl.phase ≠ .gating) :
    (Ev.between s t).enterAutonomous = Ev.between s (t.modMode fun r => { r with
      autonomous := inc16 r.autonomous, mode := .autonomous, lastChange := (.controlSilence, t.partTime) }) := by
  change (Ev.between s (t.modMode fun r => { r with
    autonomous := inc16 r.autonomous, mode := .autonomous,
    lastChange := (.controlSilence, t.partTime) })).modeEffects t.mode .autonomous = _
  rw [hm]
  exact Ev.forSecs_id _ _ fun i => Ev.modeActsOn_of_untied .autonomous (h i) nofun

section
variable {s t : State}

/-- R187: the record of a section whose counters are cleared is reported as it was. -/
theorem State.clearCounters_sec (s : State) (i : SecNo) : s.clearCounters.sec i = (s.sec i).cleared := by
  simp [State.clearCounters, State.sec]

theorem State.clearCounters_point (s : State) (p : PointNo) :
    s.clearCounters.point p = { s.point p with counters := coldPointCounters } := by
  simp [State.clearCounters, State.point]

theorem State.clearCounters_told (h : s.SuppliesTold) : s.clearCounters.SuppliesTold := fun p =>
  State.Told.of_eq (h p) (by rw [s.clearCounters_point]) (fun i => by rw [s.clearCounters_sec]; rfl) rfl

/-- R187: nothing that is reported is cleared. -/
theorem Ev.between_clearCounters_finish (h : t.SuppliesTold) (hm : t.mode = s.mode) (hs : t.secs = s.secs)
    (hst : t.station = s.station) (hp : t.points = s.points) (l : Line) (m : Telegram) :
    ((Ev.between s t.clearCounters).answer l m).finish = t.clearCounters.pushNormal l m := by
  have quiet : ((Ev.between s t.clearCounters).answer l m).reports = [] := by
    have secs := Ev.sectionReports_nil ((Ev.between s t.clearCounters).answer l m)
      (fun i => by
        change (t.clearCounters.sec i).reported = (s.sec i).reported
        rw [t.clearCounters_sec, State.sec_eq _ _ hs]
        rfl) rfl
    have points := Ev.pointReports_nil ((Ev.between s t.clearCounters).answer l m)
      (fun p => by
        change (t.clearCounters.point p).reported = (s.point p).reported
        rw [t.clearCounters_point, State.point_eq _ _ hp]
        rfl)
    have station := Ev.stationReports_nil ((Ev.between s t.clearCounters).answer l m) (congrArg Station.reported hst)
    rw [Ev.reports, secs, points, station]
    rfl
  rw [Ev.finish_of_settled (Ev.blindPass_of_settled _ hm fun i => .inl ?_) (State.clearCounters_told h) rfl, quiet]
  · rfl
  · change (t.clearCounters.sec i).ctl.state = (s.sec i).ctl.state
    rw [t.clearCounters_sec, State.sec_eq _ _ hs]
    rfl

end

end Sys2Proof.Machine

section

open Sys2Proof Sys2Proof.Machine

/-- Settles O54: the expiry writes the mode record, and no section is in a phase that a change to AUTONOMOUS acts on. -/
theorem silenceAndDayTime : Obligations.SilenceAndDayTime := by
  intro s up told
  have arm : exec .controlSilenceExpiry s = s.event Ev.silenceTaken := rfl
  have silenceTaken (due : dueNow s.partTime s.modeRec.silence = true) : (Ev.start s).silenceTaken =
      if s.mode = .active then
        (Ev.between s (s.modMode fun r => { r with silence := none, silent := true })).enterAutonomous
      else Ev.between s (s.modMode fun r => { r with silence := none, silent := true }) := if_pos due
  refine ⟨fun mode due => ?_, fun mode due quiet => ?_, fun d t ref day => ?_⟩
  · rw [arm, State.event_of_up up, silenceTaken due, if_neg mode]
    exact congrArg _ (Ev.between_finish rfl rfl rfl rfl (told.of_same rfl rfl rfl))
  · rw [arm, State.event_of_up up, silenceTaken due, if_pos mode, Ev.enterAutonomous_of_quiet]
    · rw [Ev.finish_of_settled (Ev.blindPass_of_none _ fun i => (quiet i).1) (told.of_same rfl rfl rfl) rfl,
        Ev.reports_nil _ rfl rfl rfl rfl rfl rfl]
      rfl
    · exact mode
    · exact fun i => (quiet i).2
  · refine (State.running_of_up up fun s => s.dayRollover).trans (congrArg _ ?_)
    rw [State.dayRollover, ref]
    exact if_pos day

/-- Settles O57: the cleared counters are in no report. -/
theorem clearCountersZeroesTheCounters : Obligations.ClearCountersZeroesTheCounters := by
  intro r s working told may
  have arm : exec (.clearCounters r) s = s.event fun e => e.reqClearCounters r := rfl
  rw [arm]
  unfold Ev.reqClearCounters
  rw [State.event_request working may]
  have done := Ev.between_clearCounters_finish (s := s) (t := s.countRequest) (told.of_same rfl rfl rfl) rfl rfl rfl rfl
  refine (congrArg _ (done _ _)).trans (congrArg _ ?_)
  have counts : s.bindCounts.map (fun _ => (⟨0, 0⟩ : BindCount)) = Vector.replicate 64 ⟨0, 0⟩ := by
    ext k hk
    all_goals simp
  simp only [State.clearCounters, counts]
  rfl

end

/-! SUPPORT. Requests that touch no section, station or point; the store requests and the ends of their transactions. -/

namespace Sys2Proof.Machine

open Sys2Proof

section
variable {s t : State} {r : Req} {code : Byte} {f : Ev → Ev × Option Answer}

/-- R184: a request that is answered now and changes no section, station or point. -/
theorem State.request_answered (hw : s.Working) (told : s.SuppliesTold) (may : s.mayManage r = true) {res : Result} {data : List Byte}
    (hf : f (Ev.between s s.countRequest) = (Ev.between s t, some (res, data))) (hm : t.mode = s.mode) (hs : t.secs = s.secs)
    (hst : t.station = s.station) (hp : t.points = s.points) (hb : t.tables = s.tables) :
    s.event (fun e => e.request r code f) = .next (t.answerRequest r code res data) := by
  rw [State.event_request hw may, hf]
  refine (congrArg _ (Ev.between_answer_finish hm hs hst hp (told.of_same hb hp hs) r.line _)).trans ?_
  have own : t.settings.own = s.settings.own := congrArg (fun x : Tables => x.settings.own) hb
  rw [State.answerRequest, own]

/-- The same, where the answer comes later. -/
theorem State.request_unanswered (hw : s.Working) (told : s.SuppliesTold) (may : s.mayManage r = true)
    (hf : f (Ev.between s s.countRequest) = (Ev.between s t, none)) (hm : t.mode = s.mode) (hs : t.secs = s.secs)
    (hst : t.station = s.station) (hp : t.points = s.points) (hb : t.tables = s.tables) :
    s.event (fun e => e.request r code f) = .next t := by
  rw [State.event_request hw may, hf]
  exact congrArg _ (Ev.between_finish hm hs hst hp (told.of_same hb hp hs))

/-- A request that is answered and changes nothing. -/
theorem State.request_refused (hw : s.Working) (told : s.SuppliesTold) (may : s.mayManage r = true) {res : Result} {data : List Byte}
    (hf : f (Ev.between s s.countRequest) = (Ev.between s s.countRequest, some (res, data))) :
    s.event (fun e => e.request r code f) = .next (s.countRequest.answerRequest r code res data) :=
  State.request_answered hw told may hf rfl rfl rfl rfl rfl

end

/-! ### Store requests -/

theorem runInStore_of {a n : Nat} (h1 : 1 ≤ n) (h2 : n ≤ 32) (h3 : a + n ≤ 8192) : runInStore a n = true := by
  have low : a ≤ 8191 := by omega
  simp [runInStore, storeSize, h1, h2, h3, low]

theorem Vector.any_toList_eq_false {α : Type} {n : Nat} (v : Vector α n) (p : α → Bool) :
    v.toList.any p = false ↔ ∀ i : Fin n, p v[i] = false := by
  simp only [List.any_eq_false, Vector.mem_toList_iff, Vector.mem_iff_getElem, forall_exists_index, Bool.not_eq_true]
  exact ⟨fun h i => h _ i.val i.isLt rfl, fun h x i hi hx => hx ▸ h ⟨i, hi⟩⟩

/-- R195: the state checks of a reload. -/
theorem State.reloadAllowed_iff (s : State) : s.reloadAllowed = true ↔
    s.mode = .observe ∧ (∀ i : SecNo, (s.sec i).ctl.state ∉ [.closing, .opening, .tripping]) ∧
      s.station.state ∉ [.closing, .tripping] ∧ ∀ p : PointNo, (s.point p).activity ≠ .throwing := by
  have orders : s.ordering = false ↔
      (∀ i : SecNo, (s.sec i).ctl.state ∉ [.closing, .opening, .tripping]) ∧ s.station.state ∉ [.closing, .tripping] := by
    rw [State.ordering, Bool.or_eq_false_iff, Bool.or_eq_false_iff, Vector.any_toList_eq_false]
    simp only [Bool.or_eq_false_iff, beq_eq_false_iff_ne, List.mem_cons, List.not_mem_nil, or_false, not_or, and_assoc]
    rfl
  have throws : s.throwing = false ↔ ∀ p : PointNo, (s.point p).activity ≠ .throwing := by
    rw [State.throwing, Vector.any_toList_eq_false]
    simp only [beq_eq_false_iff_ne]
    rfl
  simp only [State.reloadAllowed, Bool.and_eq_true, beq_iff_eq, Bool.not_eq_true', orders, throws, and_assoc]

/-! ### The end of a requested operation -/

/-- R191: the answer of an operation that ends goes to who asked for it, and the event reports nothing. -/
theorem Ev.endRequest_finish {s t : State} {q : Requester} (told : s.SuppliesTold) (hq : t.store.requester = some q)
    (hm : t.mode = s.mode) (hs : t.secs = s.secs) (hst : t.station = s.station) (hp : t.points = s.points)
    (hb : t.tables = s.tables) (r : Result) (data : List Byte) : ((Ev.between s t).endRequest r data).finish =
    t.endOperation.answerRequest q.req q.code r data := by
  rw [Ev.endRequest, Ev.between_s, hq]
  exact Ev.between_answer_finish (t := t.endOperation) hm hs hst hp (told.of_same hb hp hs) _ _

/-- R191: the transaction of a STORE_READ is answered with the bytes of its run. -/
theorem Ev.transactionAnswered_of_read {s : State} {a n : Nat} {x : Machine.Expiry} (op : s.store.op = some .read)
    (trans : s.store.trans = some (.read a n, x)) : (Ev.start s).transactionAnswered =
    (Ev.between s (s.modStore fun r => { r with trans := none })).endRequest .done (readRun s.storeMem a n) := by
  have whole {e : Ev} (h : e.s.store.op = some .read) (bs : List Byte) : e.readAnswered bs = e.endRequest .done bs := by
    rw [Ev.readAnswered, h]
  rw [Ev.transactionAnswered, Ev.start_s, trans]
  exact whole op _

/-- R191: the transaction of a STORE_WRITE is answered by its bytes standing in the store. -/
theorem Ev.transactionAnswered_of_write {s : State} {a : Nat} {bs : List Byte} {x : Machine.Expiry}
    (op : s.store.op = some .write) (trans : s.store.trans = some (.write a bs, x)) : (Ev.start s).transactionAnswered =
    (Ev.between s ((s.commit a bs).modStore fun r => { r with trans := none })).endRequest .done [] := by
  have whole {e : Ev} (h : e.s.store.op = some .write) : e.writeAnswered = e.endRequest .done [] := by
    rw [Ev.writeAnswered, h]
  rw [Ev.transactionAnswered, Ev.start_s, trans]
  exact whole op

/-- R191: a STORE_READ or STORE_WRITE whose transaction times out. -/
theorem Ev.timedOut_of_single {s t : State} (cut : s.cutTransaction = t) (op : t.store.op = some .read ∨
    t.store.op = some .write) : (Ev.start s).timedOut =
    (Ev.between s (t.modStore fun r => { r with trans := none })).endRequest .storeTimeout [] := by
  have op' : (Ev.between s (t.modStore fun r => { r with trans := none })).s.store.op = some .read ∨
    (Ev.between s (t.modStore fun r => { r with trans := none })).s.store.op = some .write := op
  rw [Ev.timedOut, Ev.start_mod, cut]
  rcases op' with h | h <;> rw [h]

section
variable {s : State} {r : Req} {code : Byte}

/-- R191, R193: a run in the store is read where no operation is in flight. -/
theorem Ev.storeRead_of_inStore {e : Ev} {a n : Nat} (h : runInStore a n = true) : e.storeRead r code a n =
    if e.s.store.op.isSome then (e, some .busy)
    else (e.mod fun s => s.takeOperation .read r code (.read a n), none) := by
  rw [Ev.storeRead, h]
  rfl

theorem Ev.storeWrite_of_inStore {e : Ev} {a : Nat} {bs : List Byte} (h : runInStore a bs.length = true) :
    e.storeWrite r code a bs =
      if e.s.store.op.isSome then (e, some .busy)
      else (e.mod fun s => s.takeOperation .write r code (.write a bs), none) := by
  rw [Ev.storeWrite, h]
  rfl

/-- R194: a save begins by zeroing the signature and ends by writing it. -/
theorem Tables.saveRuns_eq (t : Tables) : ∃ todo : List Transfer,
    todo.getLast? = some (.write 0 signature) ∧ t.saveRuns = .write 0 [0, 0] :: todo :=
  ⟨_, by simp [List.getLast?_append], rfl⟩

end

end Sys2Proof.Machine

section

open Sys2Proof Sys2Proof.Machine

/-- Settles O58: the checks of R193 to R195 pass, and the first transaction of each operation is the one the record shows. -/
theorem storeOperationsBeginOneAtATime : Obligations.StoreOperationsBeginOneAtATime := by
  intro r a n bs s working told may one most fits length
  have inStore : runInStore a.toNat n.toNat = true := runInStore_of one most fits
  have armRead : exec (.storeRead r a n) s = s.event fun e => e.reqStoreRead r a n := rfl
  have armWrite : exec (.storeWrite r a bs) s = s.event fun e => e.reqStoreWrite r a bs := rfl
  have armSave : exec (.storeSave r) s = s.event fun e => e.reqStoreSave r := rfl
  have armReload : exec (.storeReload r) s = s.event fun e => e.reqStoreReload r := rfl
  have notFree (free : s.store.op = none) : ¬ (Ev.between s s.countRequest).s.store.op.isSome = true := by
    rw [show (Ev.between s s.countRequest).s.store.op = none from free]
    exact Bool.false_ne_true
  have begun {f : Ev → Ev × Option Answer} {code : Byte} {t : State} :=
    State.request_unanswered (s := s) (t := t) (r := r) (code := code) (f := f) working told may
  have refused {f : Ev → Ev × Option Answer} {code : Byte} {res : Result} {data : List Byte} :=
    State.request_refused (s := s) (r := r) (code := code) (f := f) (res := res) (data := data) working told may
  refine ⟨fun free => ⟨armRead.trans (begun ?_ rfl rfl rfl rfl rfl), armWrite.trans (begun ?_ rfl rfl rfl rfl rfl), ?_,
    fun mode secs station points => armReload.trans (begun ?_ rfl rfl rfl rfl rfl)⟩, fun taken => ?_⟩
  · rw [Ev.storeRead_of_inStore inStore, if_neg (notFree free)]
    rfl
  · rw [Ev.storeWrite_of_inStore (length ▸ inStore), if_neg (notFree free)]
    rfl
  · obtain ⟨todo, last, runs⟩ := s.tables.saveRuns_eq
    refine ⟨todo, last, armSave.trans (begun ?_ rfl rfl rfl rfl rfl)⟩
    rw [Ev.storeSave, if_neg (notFree free), show (Ev.between s s.countRequest).s.tables.saveRuns = _ from runs]
    rfl
  · have allowed : (Ev.between s s.countRequest).s.reloadAllowed = true := s.countRequest.reloadAllowed_iff.mpr ⟨mode, secs, station, points⟩
    rw [Ev.storeReload, if_neg (notFree free), allowed]
    rfl
  · have busy : (Ev.between s s.countRequest).s.store.op.isSome = true := Option.isSome_iff_ne_none.mpr taken
    refine ⟨armRead.trans (refused ?_), armWrite.trans (refused ?_), armSave.trans (refused ?_), armReload.trans (refused ?_)⟩
    · rw [Ev.storeRead_of_inStore inStore, if_pos busy]
      rfl
    · rw [Ev.storeWrite_of_inStore (length ▸ inStore), if_pos busy]
      rfl
    · rw [Ev.storeSave, if_pos busy]
      rfl
    · rw [Ev.storeReload, if_pos busy]
      rfl

/-- Settles O59: a read and a write are operations of one transaction, which the answer or the expiry ends. -/
theorem storeTransactionsEndWithAReply : Obligations.StoreTransactionsEndWithAReply := by
  intro q x s up told asked
  have answered : exec .storeTransactionAnswer s = .next (Ev.start s).transactionAnswered.finish := State.event_of_up up _
  have expired (due : x.due s.partTime = true) {t : Transfer} (trans : s.store.trans = some (t, x)) :
      exec .transactionExpiry s = .next (Ev.start s).timedOut.finish := by
    refine (State.event_of_up up _).trans (congrArg (fun e : Ev => Host.Outcome.next e.finish) ?_)
    rw [Ev.transactionExpiry, Ev.start_s, trans]
    exact if_pos due
  have replied (m : Cells) (k : Nat) (res : Result) (data : List Byte) :
      let t : State := { s with store := { s.store with trans := none }, storeMem := m, freeCount := k }
      ((Ev.between s t).endRequest res data).finish = t.endOperation.answerRequest q.req q.code res data := by
    intro t
    exact Ev.endRequest_finish (s := s) (t := t) told asked rfl rfl rfl rfl rfl res data
  refine ⟨fun a n op trans => ⟨?_, fun due => ?_⟩, fun a bs op trans wf fits => ?_, fun a bs op trans wf due => ?_⟩
  · rw [answered, Ev.transactionAnswered_of_read op trans]
    exact congrArg _ (replied s.storeMem s.freeCount .done (readRun s.storeMem a n))
  · rw [expired due trans, Ev.timedOut_of_single (State.cutTransaction_of_no_write (by simp [trans])) (.inl op)]
    exact congrArg _ (replied s.storeMem s.freeCount .storeTimeout [])
  · refine ⟨writeRun s.storeMem a bs, ?_, fun k hk => readCell_writeRun_of_inside bs a k wf hk fits,
      fun y hy => readCell_writeRun_of_outside bs a y wf hy⟩
    rw [answered, Ev.transactionAnswered_of_write op trans]
    exact congrArg _ (replied (writeRun s.storeMem a bs) s.freeCount .done [])
  · refine ⟨writeSome s.storeMem (Config.writtenOfRun s.freeCount) a 0 bs, ?_,
      fun y => ⟨readCell_writeSome_of_outside _ bs a 0 y wf, readCell_writeSome _ bs a 0 y wf⟩⟩
    have cut : s.cutTransaction = s.commitSome a bs := State.cutTransaction_of_write trans
    have stands : (s.commitSome a bs).store.op = some .write := op
    rw [expired due trans, Ev.timedOut_of_single cut (.inr stands)]
    exact congrArg _ (replied (writeSome s.storeMem (Config.writtenOfRun s.freeCount) a 0 bs) (s.freeCount + 1) .storeTimeout [])

end

/-! SUPPORT. The requests that read, and those that write and activate the entries of the tables. -/

namespace Sys2Proof.Machine

open Sys2Proof

section
variable {s : State} {r : Req} {code : Byte}

/-- R186: a read answers what it reads of the part, and counts as a request. -/
theorem State.read_answered (hw : s.Working) (told : s.SuppliesTold) (may : s.mayManage r = true) (f : State → Answer) :
    s.event (fun e => e.request r code (Ev.reads f)) =
      .next (s.countRequest.answerRequest r code (f s.countRequest).1 (f s.countRequest).2) :=
  State.request_refused hw told may rfl

/-- R184: a request that is answered now and changes nothing that is reported, in which every point has been told. -/
theorem State.request_written {t : State} {f : Ev → Ev × Option Answer} {res : Result} {data : List Byte} (hw : s.Working)
    (may : s.mayManage r = true) (hf : f (Ev.between s s.countRequest) = (Ev.between s t, some (res, data)))
    (hm : t.mode = s.mode) (hs : t.secs = s.secs) (hst : t.station = s.station)
    (hp : ∀ p, (t.point p).reported = (s.point p).reported) (ht : t.SuppliesTold) (own : t.settings.own = s.settings.own) :
    s.event (fun e => e.request r code f) = .next (t.answerRequest r code res data) := by
  rw [State.event_request hw may, hf]
  let e := (Ev.between s t).answer r.line (answerTelegram s.settings.own r kMgReply code res data)
  have quiet : e.reports = [] := by
    have secs := e.sectionReports_nil (fun i => congrArg Sec.reported (State.sec_eq _ _ hs i)) rfl
    rw [Ev.reports, secs, e.pointReports_nil hp, e.stationReports_nil (congrArg Station.reported hst)]
    rfl
  have atEnd := Ev.finish_of_quiet e hm (fun i => .inl (congrArg (fun x : Sec => x.ctl.state) (State.sec_eq _ _ hs i))) ht rfl
  rw [quiet] at atEnd
  rw [State.answerRequest, own]
  exact congrArg _ atEnd

end

theorem Table.place_binding {index : Byte} {k : Fin 64} (h : index.toNat = k.val) :
    Table.binding.place index = some k.val := by
  rw [Table.place, h, if_pos ⟨Nat.zero_le _, by simp [Table.first, Table.entries]⟩]
  rfl

/-- R186: a binding entry is read with its counts. -/
theorem State.readEntry_binding {s : State} {index : Byte} {k : Fin 64} (h : index.toNat = k.val) : s.readEntry 0 index =
    (.done, s.tables.binding[k].bytes ++ be16 s.bindCounts[k].hits ++ be16 s.bindCounts[k].rejects) := by
  have read : s.readEntry 0 index = match Table.binding.place index with
    | none => (.badArgument, [])
    | some k => (.done, s.tables.entry .binding k ++
        (s.bindCounts[k]?.map fun c => be16 c.hits ++ be16 c.rejects).getD []) := rfl
  rw [read, Table.place_binding h]
  simp [Tables.entry]

/-- R187: a part of a run of bytes that has it. -/
theorem pieceAnswer_of_lt {bs : List Byte} {k : Byte} (h : k.toNat * 43 < bs.length) : pieceAnswer bs k.toNat =
    (.done, [k, BitVec.ofNat 8 ((bs.length + 42) / 43)] ++ (bs.drop (k.toNat * 43)).take 43) := by
  have inside : k.toNat < (bs.length + 42) / 43 := by omega
  simp [pieceAnswer, piece, pieceLength, inside, be8]

theorem State.readState_section {s : State} {n : Nat} {i : SecNo} (h : secOf n = some i) (k : Nat) :
    s.readState 0 n k = pieceAnswer (s.sectionBytes i) k := by
  have read : s.readState 0 n k = match secOf n with
    | some i => pieceAnswer (s.sectionBytes i) k
    | none => (.badArgument, []) := rfl
  rw [read, h]

theorem State.incidentHead_pos (s : State) (x : Incident) : 0 < (s.incidentHead x).length := by
  rw [State.incidentHead, be16]
  simp only [List.length_append, List.length_cons]
  omega

/-- R95: the newest record stands last. -/
theorem State.readIncident_newest (s : State) (n : Nat) : s.readIncident 2 n 0 0 =
    match s.incidents.records.getLast? with
    | none => (.failed, [])
    | some x => pieceAnswer (s.incidentHead x) 0 := by
  rfl

/-! ### Writing and activating entries -/

theorem Table.place_points {index : Byte} {p : PointNo} (h : pointOf index.toNat = some p) :
    Table.points.place index = some p.val ∧ pointOf (p.val + 1) = some p := by
  unfold pointOf at h ⊢
  split at h
  · rename_i inside
    obtain rfl := Option.some.inj h
    have back : index.toNat - 1 + 1 = index.toNat := Nat.sub_add_cancel inside.1
    refine ⟨if_pos ⟨inside.1, by simp only [Table.first, Table.entries]; omega⟩, ?_⟩
    simp only [back]
    exact dif_pos inside
  · cases h

theorem entryLengthOk_binding {bs : List Byte} (h : bs.length = 10) : entryLengthOk 0 bs = true := by
  have length : entryLengthOk 0 bs = (bs.length == 10) := rfl
  rw [length, h]
  rfl

/-- The entries of the points, the points and the sections decide whether the points have been told. -/
theorem State.SuppliesTold.of_entries {s t : State} (h : s.SuppliesTold) (hb : t.tables.points = s.tables.points)
    (hp : t.points = s.points) (hs : t.secs = s.secs) : t.SuppliesTold := by
  intro p
  have entry : t.pointEntry p = s.pointEntry p := congrArg (fun v : Vector PointEntry 24 => v[p]) hb
  rw [entry, State.point_eq _ _ hp, State.sec_eq _ _ hs]
  exact h p

/-- R131: a point entry that becomes active has its supply read; the others have been told. -/
theorem State.activatePoint_told {s : State} (h : s.SuppliesTold) (p : PointNo) :
    ((s.setPointActive p true).activatePoint p).SuppliesTold := by
  intro q
  by_cases hq : p = q
  · subst hq
    intro _
    simp [State.activatePoint, State.sec, State.setPointActive, State.pointEntry]
  · have others : s.tables.points[q] = (s.tables.points.set p { s.tables.points[p] with active := true })[q] :=
      (Vector.getElem_set_ne p.isLt q.isLt (Fin.val_ne_of_ne hq)).symm
    have entry : ((s.setPointActive p true).activatePoint p).pointEntry q = s.pointEntry q := others.symm
    have point : ((s.setPointActive p true).activatePoint p).point q = s.point q :=
      State.point_modPoint_of_ne (s.setPointActive p true) hq _
    rw [entry, point]
    exact h q

theorem State.activatePoint_reported {s : State} {p : PointNo} (h : s.point p = coldPoint) (q : PointNo) :
    (((s.setPointActive p true).activatePoint p).point q).reported = (s.point q).reported := by
  by_cases hq : p = q
  · subst hq
    rw [State.activatePoint, State.point_modPoint_self, h]
    rfl
  · rw [State.activatePoint, State.point_modPoint_of_ne _ hq]
    rfl

/-- R150, R188: what the writing of a binding entry comes to. -/
theorem Ev.writeEntry_binding (e : Ev) {index : Byte} {k : Fin 64} (bs : List Byte) (h : index.toNat = k.val) :
    e.writeEntry 0 index bs =
      if e.s.tables.binding[k].active then (e, (.entryActive, []))
      else match e.s.tables.put .binding k bs true with
        | none => (e, (.badArgument, []))
        | some tables => (e.mod fun s => ({ s with tables := tables } : State).clearBinding k,
            (.done, tables.entry .binding k)) := by
  have written : e.writeEntry 0 index bs = match Table.binding.place index with
      | none => (e, (.badArgument, []))
      | some k =>
        if e.s.tables.activeAt .binding k then (e, (.entryActive, []))
        else match e.s.tables.put .binding k bs true with
          | none => (e, (.badArgument, []))
          | some tables =>
            let e := e.mod fun s => ({ s with tables := tables } : State).clearBinding k
            (e, (.done, e.s.tables.entry .binding k)) := rfl
  have active : e.s.tables.activeAt .binding k.val = e.s.tables.binding[k].active := by simp [Tables.activeAt]
  rw [written, Table.place_binding h]
  simp only [active]
  simp [State.clearBinding]

theorem Ev.writeEntry_of_active {e : Ev} {index : Byte} {k : Fin 64} (bs : List Byte) (h : index.toNat = k.val)
    (on : e.s.tables.binding[k].active = true) : e.writeEntry 0 index bs = (e, (.entryActive, [])) := by
  rw [e.writeEntry_binding bs h, if_pos on]

theorem Ev.writeEntry_of_inactive {e : Ev} {index : Byte} {k : Fin 64} {bs : List Byte} {x : Binding}
    (h : index.toNat = k.val) (hx : bindingOf bs = some x) (off : e.s.tables.binding[k].active = false) :
    e.writeEntry 0 index bs = (e.mod fun s => { s with
        tables := { e.s.tables with binding := e.s.tables.binding.set k { x with active := false } },
        bindCounts := s.bindCounts.set k ⟨0, 0⟩ }, (.done, Binding.bytes { x with active := false })) := by
  have put : e.s.tables.put .binding k.val bs true =
      some { e.s.tables with binding := e.s.tables.binding.set k { x with active := false } } := by
    rw [Tables.put, dif_pos k.isLt, hx, ← off]
    rfl
  rw [e.writeEntry_binding bs h, if_neg (ne_true_of_eq_false off), put]
  simp [State.clearBinding, Tables.entry]

theorem Ev.entryActive_binding {e : Ev} {index : Byte} {k : Fin 64} (h : index.toNat = k.val) :
    e.entryActive 0 index 1 = (e.mod fun s => { s with tables := { s.tables with
      binding := s.tables.binding.set k { s.tables.binding[k] with active := true } } }, .done) := by
  have set : e.entryActive 0 index 1 = match Table.binding.place index with
      | none => (e, .badArgument)
      | some k => (e.mod fun s => s.setBindingActive k true, .done) := rfl
  rw [set, Table.place_binding h]
  simp [State.setBindingActive]

/-- R188: a point entry that becomes active. -/
theorem Ev.entryActive_point {e : Ev} {index : Byte} {p : PointNo} (h : pointOf index.toNat = some p)
    (off : (e.s.pointEntry p).active = false) : e.entryActive 2 index 1 =
    (e.mod fun s => (s.setPointActive p true).activatePoint p, .done) := by
  obtain ⟨place, point⟩ := Table.place_points h
  have set : e.entryActive 2 index 1 = match Table.points.place index with
      | none => (e, .badArgument)
      | some k => match pointOf (k + 1) with
        | some p => e.pointActive p true
        | none => (e, .badArgument) := rfl
  rw [set, place]
  simp only [point]
  rw [Ev.pointActive, off]
  rfl

end Sys2Proof.Machine

section

open Sys2Proof Sys2Proof.Machine

/-- Settles O55: the count of requests is in nothing that is read. -/
theorem readRequestsChangeOnlyTheAnswer : Obligations.ReadRequestsChangeOnlyTheAnswer := by
  intro r s working told may
  have reads {code : Byte} (f : State → Answer) : s.event (fun e => e.request r code (Ev.reads f)) =
      .next (s.countRequest.answerRequest r code (f s.countRequest).1 (f s.countRequest).2) :=
    State.read_answered working told may f
  have answers {code : Byte} {f : State → Answer} {res : Result} {data : List Byte} (h : f s.countRequest = (res, data)) :
      s.event (fun e => e.request r code (Ev.reads f)) = .next (s.countRequest.answerRequest r code res data) := by
    rw [reads, h]
  have armState (x y : Byte) (n : BitVec 16) : exec (.readState r x n y) s =
    s.event fun e => e.request r 0x01 (Ev.reads fun s => s.readState x n.toNat y.toNat) := rfl
  have armEntry (x y : Byte) : exec (.readEntry r x y) s =
    s.event fun e => e.request r 0x02 (Ev.reads fun s => s.readEntry x y) := rfl
  have armCounters (x : Byte) : exec (.readCounters r x) s =
    s.event fun e => e.request r 0x06 (Ev.reads fun s => s.readCounters x) := rfl
  have armIncident (x y z : Byte) (n : BitVec 16) : exec (.readIncident r x n y z) s =
    s.event fun e => e.request r 0x08 (Ev.reads fun s => s.readIncident x n.toNat y z.toNat) := rfl
  refine ⟨fun i n k found inside => ?_, fun index k place => ?_, fun l => ?_, fun n => ⟨fun empty => ?_, fun x last => ?_⟩,
    fun n x y z => ⟨⟨_, _, (armState ..).trans (reads _)⟩, ⟨_, _, (armEntry ..).trans (reads _)⟩,
      ⟨_, _, (armCounters ..).trans (reads _)⟩, ⟨_, _, (armIncident ..).trans (reads _)⟩⟩⟩
  · refine (armState ..).trans (answers ?_)
    exact (State.readState_section found k.toNat).trans (pieceAnswer_of_lt inside)
  · exact (armEntry ..).trans (answers (State.readEntry_binding place))
  · cases l <;> exact (armCounters ..).trans (answers rfl)
  · refine (armIncident ..).trans (answers ((State.readIncident_newest s.countRequest n.toNat).trans ?_))
    rw [empty]
    rfl
  · refine (armIncident ..).trans (answers ((State.readIncident_newest s.countRequest n.toNat).trans ?_))
    rw [last]
    exact pieceAnswer_of_lt (k := 0) (State.incidentHead_pos s x)

/-- Settles O56: no entry that is written or activated is in a report, and an activated point is told its supply. -/
theorem entriesAreWrittenAndActivated : Obligations.EntriesAreWrittenAndActivated := by
  intro r index s working told may
  have armWrite (x : Byte) (bs : List Byte) : exec (.writeEntry r x index bs) s =
    s.event fun e => e.reqWriteEntry r x index bs := rfl
  have armActive (x : Byte) : exec (.entryActive r x index 1) s = s.event fun e => e.reqEntryActive r x index 1 := rfl
  refine ⟨fun k bs x place length entry => ⟨fun off => ?_, fun on => ?_, ?_⟩, fun p found off cold => ?_⟩
  · refine (armWrite ..).trans (State.request_written working may ?_ rfl rfl rfl (fun _ => rfl) (told.of_entries rfl rfl rfl) rfl)
    dsimp only
    rw [if_pos (entryLengthOk_binding length), Ev.writeEntry_of_inactive place entry off]
    rfl
  · refine (armWrite ..).trans (State.request_refused working told may ?_)
    dsimp only
    rw [if_pos (entryLengthOk_binding length), Ev.writeEntry_of_active bs place on]
  · refine (armActive ..).trans (State.request_written working may ?_ rfl rfl rfl (fun _ => rfl) (told.of_entries rfl rfl rfl) rfl)
    dsimp only
    rw [Ev.entryActive_binding place]
    rfl
  · have activated : (Ev.between s s.countRequest).entryActive 2 index 1 =
        ((Ev.between s s.countRequest).mod fun s => (s.setPointActive p true).activatePoint p, .done) :=
      Ev.entryActive_point found off
    have entry : (s.countRequest.setPointActive p true).activatePoint p = { s.countRequest with
        tables := { s.tables with points := s.tables.points.set p { s.tables.points[p] with active := true } },
        points := s.points.set p { coldPoint with
          supplyLive := (s.sec (s.pointEntry p).supply).ctl.state == .live } } := by
      simp [State.activatePoint, State.setPointActive, State.modPoint, State.pointEntry, State.sec]
    rw [← entry]
    refine (armActive ..).trans (State.request_written working may ?_ rfl rfl rfl (fun q => ?_) ?_ rfl)
    · rw [activated]
      rfl
    · exact State.activatePoint_reported cold q
    · exact State.activatePoint_told (told.of_same rfl rfl rfl) p

end

/-! SUPPORT. Events that report the station, one section or one point, and the commands answered at their end. -/

namespace Sys2Proof.Machine

open Sys2Proof

section
variable {s t : State}

/-- R137: the points report nothing where none of their reported fields changed. -/
theorem Ev.between_reports (s t : State) : (Ev.between s t).reports =
    (Ev.between s t).stationReports ++ (Ev.between s t).sectionReports ++ (Ev.between s t).pointReports := by
  change [] ++ (Ev.between s t).stationReports ++ (Ev.between s t).sectionReports ++ [] ++ _ = _
  simp

theorem Ev.between_reports_nil (hs : ∀ i, (t.sec i).reported = (s.sec i).reported)
    (hst : t.station.reported = s.station.reported) (hp : ∀ p, (t.point p).reported = (s.point p).reported) :
    (Ev.between s t).reports = [] := by
  rw [Ev.between_reports, Ev.sectionReports_nil _ hs rfl, Ev.stationReports_nil _ hst, Ev.pointReports_nil _ hp]
  rfl

theorem Ev.between_reports_station (hs : ∀ i, (t.sec i).reported = (s.sec i).reported)
    (hst : t.station.reported ≠ s.station.reported) (hp : ∀ p, (t.point p).reported = (s.point p).reported) :
    (Ev.between s t).reports = [t.report kStationReport t.stationReportBody] := by
  rw [Ev.between_reports, Ev.sectionReports_nil _ hs rfl, Ev.stationReports_one _ hst, Ev.pointReports_nil _ hp]
  rfl

theorem Ev.between_reports_section {i : SecNo} (hs : ∀ j, j ≠ i → (t.sec j).reported = (s.sec j).reported)
    (hi : (t.sec i).reported ≠ (s.sec i).reported) (hst : t.station.reported = s.station.reported)
    (hp : ∀ p, (t.point p).reported = (s.point p).reported) :
    (Ev.between s t).reports = [t.report kSectionReport (t.sectionReportBody i)] := by
  rw [Ev.between_reports, Ev.sectionReports_single _ i hs hi rfl, Ev.stationReports_nil _ hst, Ev.pointReports_nil _ hp]
  rfl

theorem Ev.between_reports_point {p : PointNo} (hs : ∀ i, (t.sec i).reported = (s.sec i).reported)
    (hst : t.station.reported = s.station.reported) (hp : ∀ q, q ≠ p → (t.point q).reported = (s.point q).reported)
    (hq : (t.point p).reported ≠ (s.point p).reported) :
    (Ev.between s t).reports = [t.report kPointReport (t.pointReportBody p)] := by
  rw [Ev.between_reports, Ev.sectionReports_nil _ hs rfl, Ev.stationReports_nil _ hst, Ev.pointReports_single _ p hp hq]
  rfl

/-- R59: no section's state changed, or a change to a state in which no BLIND decision is acted on. -/
def State.BlindSettled (s t : State) : Prop := t.mode = s.mode ∧ ∀ i,
  (t.sec i).ctl.state = (s.sec i).ctl.state ∨ t.NotBlindOverdue i ∨ (t.sec i).ctl.state.trippable = false

theorem State.BlindSettled.of_secs (hm : t.mode = s.mode) (hs : t.secs = s.secs) : s.BlindSettled t :=
  ⟨hm, fun i => .inl (congrArg (fun x : Sec => x.ctl.state) (State.sec_eq _ _ hs i))⟩

theorem State.BlindSettled.blindPass (h : s.BlindSettled t) {e : Ev} (hs : e.s = t) (ho : e.old = s) : e.blindPass = e := by
  subst hs ho
  exact Ev.blindPass_of_settled e h.1 h.2

/-- R26, R137: an event in which every point has been told ends by queuing its reports. -/
theorem Ev.between_finish_reporting {ts : List Telegram} (hb : s.BlindSettled t) (ht : t.SuppliesTold)
    (hr : (Ev.between s t).reports = ts) : (Ev.between s t).finish = t.pushAll .control ts := by
  rw [Ev.finish_of_settled (hb.blindPass rfl rfl) ht rfl, hr]
  rfl

theorem State.pushAll_settings (s : State) (l : Line) (ts : List Telegram) : (s.pushAll l ts).settings = s.settings := by
  induction ts generalizing s with
  | nil => rfl
  | cons x xs ih => exact (ih _).trans (by cases l <;> rfl)

/-- R183: a COMMAND that is carried out: its reports are queued and then its answer. -/
theorem State.command_answered {r : Req} {code : Byte} {f : Ev → Ev × Result} {res : Result} {ts : List Telegram}
    (hw : s.Working) (may : s.mayCommand r = true) (hf : f (Ev.between s s.countCommand) = (Ev.between s t, res))
    (hb : s.BlindSettled t) (ht : t.SuppliesTold) (own : t.settings.own = s.settings.own)
    (hr : (Ev.between s t).reports = ts) :
    s.event (fun e => e.command r code f) = .next ((t.pushAll .control ts).answerCommand r code res) := by
  rw [State.event_command hw may, hf]
  let e := (Ev.between s t).answer r.line (answerTelegram s.settings.own r kCommandResult code res [])
  have atEnd : e.finish = (t.pushAll .control e.reports).pushNormal r.line
      (answerTelegram s.settings.own r kCommandResult code res []) :=
    Ev.finish_of_settled (hb.blindPass (e := e) rfl rfl) ht rfl
  have reports : e.reports = ts := hr
  rw [State.answerCommand, State.pushAll_settings, own, ← reports]
  exact congrArg _ atEnd

/-- A COMMAND that is answered and changes nothing. -/
theorem State.command_refused {r : Req} {code : Byte} {f : Ev → Ev × Result} {res : Result} (hw : s.Working)
    (told : s.SuppliesTold) (may : s.mayCommand r = true)
    (hf : f (Ev.between s s.countCommand) = (Ev.between s s.countCommand, res)) :
    s.event (fun e => e.command r code f) = .next (s.countCommand.answerCommand r code res) :=
  State.command_answered hw may hf (.of_secs rfl rfl) (told.of_same rfl rfl rfl) rfl
    (Ev.between_reports_nil (fun _ => rfl) rfl fun _ => rfl)

end

section
variable {s t : State} {r : Req} {code : Byte} {f : Ev → Ev × Result} {res : Result}

/-- R26: a COMMAND that changes the station's state and no section and no point. -/
theorem State.command_station (hw : s.Working) (told : s.SuppliesTold) (may : s.mayCommand r = true)
    (hf : f (Ev.between s s.countCommand) = (Ev.between s t, res)) (hst : t.station.state ≠ s.station.state)
    (hm : t.mode = s.mode) (hs : t.secs = s.secs) (hp : t.points = s.points) (hb : t.tables = s.tables) :
    s.event (fun e => e.command r code f) = .next (t.reportStation.answerCommand r code res) :=
  State.command_answered hw may hf (.of_secs hm hs) (told.of_same hb hp hs) (congrArg (fun x : Tables => x.settings.own) hb)
    (Ev.between_reports_station (fun i => congrArg Sec.reported (State.sec_eq _ _ hs i))
      (fun h => hst (congrArg Prod.fst h)) fun p => congrArg Point.reported (State.point_eq _ _ hp p))

end

/-! ### Changes of the station's state -/

/-- R68: no gate is judged anew where no section waits for its gates. -/
theorem Ev.withStation_of_not_gating (e : Ev) (f : Ev → Ev) (h : ∀ i, ((f e).s.sec i).rcl.phase ≠ .gating) :
    e.withStation f = f e := by
  unfold Ev.withStation
  dsimp only
  split
  · rfl
  · exact Ev.forSecs_id _ _ fun i => Ev.reevaluate_of_not_gating (h i) _

/-- R68: the same, for a change that leaves the sections. -/
theorem Ev.withStation_mod {e : Ev} {f : State → State} {t : State} (hg : ∀ i, (e.s.sec i).rcl.phase ≠ .gating)
    (hf : f e.s = t) (hs : t.secs = e.s.secs) : (e.withStation fun e => e.mod f) = e.mod fun _ => t := by
  subst hf
  refine e.withStation_of_not_gating _ fun i => ?_
  rw [Ev.mod_s, State.sec_eq _ _ hs]
  exact hg i

/-- R22: a section locked out for breaker failure holds its trip line. -/
theorem State.failureHeld_iff (s : State) : s.failureHeld = true ↔ ∃ i : SecNo, (s.sec i).ctl.state = .lockedOut ∧
    (s.sec i).ctl.reason = .breakerFailure ∧ (s.sec i).ctl.tripLine = true := by
  rw [← not_iff_not, Bool.not_eq_true, State.failureHeld, Vector.any_toList_eq_false, not_exists]
  refine forall_congr' fun i => ?_
  rw [← Bool.not_eq_true, Bool.and_eq_true, Bool.and_eq_true, beq_iff_eq, beq_iff_eq, and_assoc]
  rfl

theorem State.queueOrder_of_not_observe {s : State} (h : s.mode ≠ .observe) (obj : BreakerObj) (k : OrderKind) :
    s.queueOrder obj k = { s with fieldPort := { s.fieldPort with
      urgent := pushUrgent s.fieldPort.urgent ⟨obj, k, s.telegram (s.breakerStation obj) k.code []⟩ } } := if_neg h

/-- R22: the checks of STATION_OPEN. -/
theorem State.judgeStationOpen_eq (s : State) : s.judgeStationOpen true =
    if s.tables.station.active = false ∨ s.mode = .observe then .refusedState
    else if s.station.state = .closed ∨ s.station.state = .closing then .accepted
    else if s.station.state = .opened ∧ s.station.position = .opened then .done
    else .refusedState := by
  rw [State.judgeStationOpen]
  cases s.station.state <;> simp

theorem State.judgeStationOpen_accepted {s : State} (h : s.judgeStationOpen true = .accepted) :
    s.mode ≠ .observe ∧ StState.tripping ≠ s.station.state := by
  rw [State.judgeStationOpen_eq] at h
  split at h
  · exact absurd h nofun
  · rename_i may
    refine ⟨fun mode => may (.inr mode), fun tripping => ?_⟩
    simp [← tripping] at h

theorem State.assertStationLine_of_not_observe {s : State} (h : s.mode ≠ .observe) :
    s.assertStationLine = s.modStation fun t => { t with tripLine := true } := if_neg h

end Sys2Proof.Machine

section

open Sys2Proof Sys2Proof.Machine

/-- Settles O39: the interlock is the check that fails, and otherwise the station's state is all that changes beside the
order. -/
theorem stationCloseIsOrdered : Obligations.StationCloseIsOrdered := by
  intro r s working told may active opened
  have arm : exec (.stationClose r) s = s.event fun e => e.command r 0x06 Ev.stationClose := rfl
  have judged : (Ev.between s s.countCommand).s.judgeStationClose true =
      if s.failureHeld then .refusedInterlock else if s.mode = .observe then .refusedState else .accepted := by
    have judged' : s.countCommand.judgeStationClose true = if !s.tables.station.active then .refusedState
      else match s.station.state with
        | .closed => .done
        | .failed | .closing | .tripping => .refusedState
        | .opened => if s.failureHeld then .refusedInterlock
          else if s.mode == .observe then .refusedState else .accepted := rfl
    rw [Ev.between_s, judged', active, opened]
    simp
  refine ⟨fun held => ?_, fun quiet mode => ?_⟩
  · rw [if_pos (s.failureHeld_iff.mpr held)] at judged
    refine arm.trans (State.command_refused working told may ?_)
    rw [Ev.stationClose, judged]
    rfl
  · have free : ¬ s.failureHeld = true := fun h => (s.failureHeld_iff.mp h).elim fun i h => (quiet i).1 h
    have mode' : s.countCommand.mode ≠ .observe := mode
    rw [if_neg free, if_neg mode] at judged
    rw [arm]
    refine State.command_station working told may ?_ (by simp [opened]) rfl rfl rfl rfl
    rw [Ev.stationClose, judged, if_pos rfl, Ev.withStation_mod fun i => (quiet i).2]
    · rfl
    · rw [Ev.between_s, State.queueOrder_of_not_observe mode']
      rfl
    · rfl

/-- Settles O40: the branches of the check are those of the statement. -/
theorem stationOpenIsOrdered : Obligations.StationOpenIsOrdered := by
  intro r kind trip s res working told may hkind hres
  have arm : exec (.stationOpen r kind) s = s.event fun e => e.command r 0x07 fun e => e.stationOpen trip := by
    have arm' : exec (.stationOpen r kind) s = s.event fun e => e.cmdStationOpen r kind := rfl
    rw [arm', hkind]
    cases trip <;> rfl
  have judged : (Ev.between s s.countCommand).s.judgeStationOpen true = res := by
    rw [hres]
    exact State.judgeStationOpen_eq s
  refine ⟨fun refused => ?_, fun accepted quiet => ?_⟩
  · refine arm.trans (State.command_refused working told may ?_)
    rw [Ev.stationOpen, judged, if_neg refused]
  · subst accepted
    obtain ⟨mode, moves⟩ := State.judgeStationOpen_accepted (s := s.countCommand) judged
    rw [arm]
    refine State.command_station working told may ?_ moves rfl rfl rfl rfl
    rw [Ev.stationOpen, judged, if_pos rfl, Ev.withStation_mod quiet]
    · rfl
    · rw [Ev.between_s]
      cases trip <;> dsimp only
      · rw [State.queueOrder_of_not_observe mode]
        rfl
      · rw [State.queueOrder_of_not_observe mode, State.assertStationLine_of_not_observe (by exact mode)]
        rfl
    · rfl

/-- Settles O41: a reset changes the station alone. -/
theorem stationResetRecoversFromFailed : Obligations.StationResetRecoversFromFailed := by
  intro r s working told may
  have arm : exec (.stationReset r) s = s.event fun e => e.command r 0x08 Ev.stationReset := rfl
  refine ⟨fun failed quiet => ?_, fun other => ?_⟩
  · rw [arm]
    refine State.command_station working told may ?_ ?_ rfl rfl rfl rfl
    · rw [Ev.stationReset, if_pos (show (Ev.between s s.countCommand).s.station.state = .failed from failed),
        Ev.withStation_of_not_gating]
      · rfl
      · exact quiet
    · rw [failed]
      change (if s.station.position = .closed then StState.closed else .opened) ≠ .failed
      split <;> exact nofun
  · refine arm.trans (State.command_refused working told may ?_)
    rw [Ev.stationReset, if_neg]
    exact other

end

/-! SUPPORT. What the end of an event leaves as the event made it, and the commands of one section. -/

namespace Sys2Proof.Machine

open Sys2Proof

/-! ### What the end of an event leaves -/

/-- What stands after an event as the event left it, and is not touched by its end. -/
structure State.EndsAs (s u : State) : Prop where
  secs : u.secs = s.secs
  station : u.station = s.station
  incidents : u.incidents = s.incidents
  vehicles : u.vehicles = s.vehicles
  urgent : u.fieldPort.urgent = s.fieldPort.urgent
  modeRec : u.modeRec = s.modeRec
  commands : u.commands = s.commands
  background : u.background = s.background

theorem State.EndsAs.sec {s u : State} (h : s.EndsAs u) (i : SecNo) : u.sec i = s.sec i := State.sec_eq _ _ h.secs i

/-- R59: where no BLIND decision is given, the end of an event tells points, serves heads and queues telegrams. -/
theorem Ev.finish_endsAs {e : Ev} (h : e.blindPass = e) : e.s.EndsAs e.finish := by
  have atEnd := Ev.finish_edits h
  exact {
    secs := Vector.ext fun i hi => atEnd.sec (i := ⟨i, hi⟩) id id
    station := atEnd.station id id
    incidents := atEnd.incidents id id
    vehicles := atEnd.vehicles id id
    urgent := atEnd.urgent id id id
    modeRec := atEnd.modeRec id id id
    commands := atEnd.commands id id
    background := atEnd.background id id id id id }

theorem State.foldl_pushNormal_points (l : List (Line × Telegram)) (s : State) :
    (l.foldl (fun s a => s.pushNormal a.1 a.2) s).points = s.points := by
  induction l generalizing s with
  | nil => rfl
  | cons a l ih => exact (ih _).trans (s.pushNormal_points _ _)

theorem State.pushAll_points (s : State) (l : Line) (ts : List Telegram) : (s.pushAll l ts).points = s.points := by
  induction ts generalizing s with
  | nil => rfl
  | cons t ts ih => exact (ih _).trans (s.pushNormal_points _ _)

/-- The points too stand as the event left them where each has been told its supply. -/
theorem Ev.finish_points {e : Ev} (hb : e.blindPass = e) (ht : e.s.SuppliesTold) (hs : e.serve = []) :
    e.finish.points = e.s.points := by
  rw [Ev.finish_of_settled hb ht hs, State.foldl_pushNormal_points, State.pushAll_points]

/-- The Field line port too, where no answer goes to it: what is reported goes to the Control line. -/
theorem Ev.finish_fieldPort {e : Ev} (hb : e.blindPass = e) (ht : e.s.SuppliesTold) (hs : e.serve = [])
    (ha : e.answers = []) : e.finish.fieldPort = e.s.fieldPort := by
  have pushed (ts : List Telegram) (s : State) : (s.pushAll .control ts).fieldPort = s.fieldPort := by
    induction ts generalizing s with
    | nil => rfl
    | cons t ts ih => exact ih _
  rw [Ev.finish_of_settled hb ht hs, ha]
  exact pushed _ _

section
variable (e : Ev)

@[simp] theorem Ev.reportIncident_s (n : Nat) (c : IncCause) : (e.reportIncident n c).s = e.s := by
  unfold Ev.reportIncident
  split <;> rfl

@[simp] theorem Ev.reportIncident_old (n : Nat) (c : IncCause) : (e.reportIncident n c).old = e.old := by
  unfold Ev.reportIncident
  split <;> rfl

@[simp] theorem Ev.reportIncident_serve (n : Nat) (c : IncCause) : (e.reportIncident n c).serve = e.serve := by
  unfold Ev.reportIncident
  split <;> rfl

@[simp] theorem Ev.reportIncident_answers (n : Nat) (c : IncCause) : (e.reportIncident n c).answers = e.answers := by
  unfold Ev.reportIncident
  split <;> rfl

/-- R84: a record is added to the list. -/
@[simp] theorem Ev.addIncident_s (r : Incident) :
    (e.addIncident r).s = { e.s with incidents := e.s.incidents.add r } := Ev.reportIncident_s _ _ _

theorem Ev.addIncident_secs (r : Incident) : (e.addIncident r).s.secs = e.s.secs := by
  rw [Ev.addIncident_s]

@[simp] theorem Ev.addIncident_old (r : Incident) : (e.addIncident r).old = e.old := Ev.reportIncident_old _ _ _

@[simp] theorem Ev.addIncident_serve (r : Incident) : (e.addIncident r).serve = e.serve := Ev.reportIncident_serve _ _ _

@[simp] theorem Ev.addIncident_answers (r : Incident) : (e.addIncident r).answers = e.answers :=
  Ev.reportIncident_answers _ _ _

end

/-! ### One section's records -/

theorem State.sameSecsBut_modSec (s : State) (i : SecNo) (f : Sec → Sec) : s.sameSecsBut (s.modSec i f) i :=
  fun _ hj => s.sec_modSec_of_ne hj.symm f

@[simp] theorem State.sec_modCtl_self (s : State) (i : SecNo) (f : SectionCtl → SectionCtl) :
    (s.modCtl i f).sec i = { s.sec i with ctl := f (s.sec i).ctl } := s.sec_modSec_self i _

@[simp] theorem State.sec_modRcl_self (s : State) (i : SecNo) (f : Reclose → Reclose) :
    (s.modRcl i f).sec i = { s.sec i with rcl := f (s.sec i).rcl } := s.sec_modSec_self i _

section
variable {s t : State} {i : SecNo}

theorem State.sameSecsBut.trans {u : State} (h : s.sameSecsBut t i) (k : t.sameSecsBut u i) : s.sameSecsBut u i :=
  fun j hj => (k j hj).trans (h j hj)

theorem State.sameSecsBut.modCtl (h : s.sameSecsBut t i) (f : SectionCtl → SectionCtl) : s.sameSecsBut (t.modCtl i f) i :=
  h.trans (t.sameSecsBut_modSec i _)

theorem State.sameSecsBut.modRcl (h : s.sameSecsBut t i) (f : Reclose → Reclose) : s.sameSecsBut (t.modRcl i f) i :=
  h.trans (t.sameSecsBut_modSec i _)

end

/-! ### Commands of a section -/

section
variable {s t : State} {r : Req} {code : Byte} {f : Ev → Ev × Result} {res : Result} {i : SecNo}

/-- R131: what the points have been told is whether their sections are LIVE. -/
theorem State.SuppliesTold.of_live (h : s.SuppliesTold) (hb : t.tables = s.tables) (hp : t.points = s.points)
    (hs : ∀ i, (t.sec i).ctl.state = .live ↔ (s.sec i).ctl.state = .live) : t.SuppliesTold := by
  intro p
  have entry : t.pointEntry p = s.pointEntry p := congrArg (fun x : Tables => x.points[p]) hb
  have live : ((t.sec (s.pointEntry p).supply).ctl.state == .live) = ((s.sec (s.pointEntry p).supply).ctl.state == .live) :=
    Bool.eq_iff_iff.mpr (by simpa using hs _)
  rw [entry, State.point_eq _ _ hp, live]
  exact h p

/-- One section's state changed, to one in which no BLIND decision is acted on or given. -/
theorem State.BlindSettled.of_sec (hm : t.mode = s.mode) (hs : s.sameSecsBut t i)
    (hi : t.NotBlindOverdue i ∨ (t.sec i).ctl.state.trippable = false) : s.BlindSettled t := by
  refine ⟨hm, fun j => ?_⟩
  by_cases hj : j = i
  · subst hj
    exact .inr hi
  · exact .inl (by rw [hs j hj])

/-- R26: a COMMAND that changes the state of one section, that is not LIVE before or after, and nothing else that is
reported. -/
theorem State.command_section (hw : s.Working) (told : s.SuppliesTold) (may : s.mayCommand r = true)
    (hf : f (Ev.between s s.countCommand) = (Ev.between s t, res)) (moved : (t.sec i).ctl.state ≠ (s.sec i).ctl.state)
    (dead : (s.sec i).ctl.state ≠ .live) (calm : (t.sec i).ctl.state.trippable = false ∨ t.NotBlindOverdue i)
    (hi : (t.sec i).ctl.state ≠ .live) (hs : s.sameSecsBut t i) (hm : t.mode = s.mode)
    (hst : t.station = s.station) (hp : t.points = s.points) (hb : t.tables = s.tables) :
    s.event (fun e => e.command r code f) = .next ((t.reportSection i).answerCommand r code res) := by
  refine State.command_answered hw may hf (.of_sec hm hs calm.symm) (told.of_live hb hp fun j => ?_)
    (congrArg (fun x : Tables => x.settings.own) hb)
    (Ev.between_reports_section (fun j hj => congrArg Sec.reported (hs j hj)) (fun h => moved (congrArg Prod.fst h))
      (congrArg Station.reported hst) fun p => congrArg Point.reported (State.point_eq _ _ hp p))
  by_cases hj : j = i
  · subst hj
    exact ⟨fun h => absurd h hi, fun h => absurd h dead⟩
  · rw [hs j hj]

/-- R25: the checks of an isolation that is made. -/
theorem Ev.sectionIsolate_of_allowed {e : Ev} {force : Bool} (active : (e.s.secEntry i).active = true)
    (dead : (e.s.sec i).ctl.state = .dead) (opened : (e.s.sec i).ctl.position = .opened)
    (allowed : e.s.polesUpIn i = true → force = true) : e.sectionIsolate i force =
    (e.mod fun s => s.setSec i .isolated (if force && e.s.polesUpIn i then .isolatedForced else .isolated), .done) := by
  have poles : (e.s.polesUpIn i && !force) = false := by
    cases hp : e.s.polesUpIn i with
    | false => rfl
    | true => simp [allowed hp]
  rw [Ev.sectionIsolate, active, dead, opened, poles]
  rfl

theorem Ev.sectionRelease_of_isolated {e : Ev} (active : (e.s.secEntry i).active = true)
    (isolated : (e.s.sec i).ctl.state = .isolated) :
    e.sectionRelease i = (e.mod fun s => s.setSec i .dead .released, .done) := by
  rw [Ev.sectionRelease, active, isolated]
  rfl

/-- R24: a reset of a section in its lockout. -/
theorem Ev.sectionReset_of_lockedOut {e : Ev} (active : (e.s.secEntry i).active = true)
    (locked : (e.s.sec i).ctl.state = .lockedOut) : e.sectionReset i =
    (e.mod fun s => (((s.releaseLine i).modRcl i fun r => { r with shots := 0 }).modCtl i fun c =>
      { c with incident := none }).setSec i (if s.bothClosed i then .live else .dead) .reset, .done) := by
  rw [Ev.sectionReset, active]
  exact if_pos locked

theorem Ev.sectionReset_of_refused {e : Ev} (h : (e.s.secEntry i).active = false ∨ (e.s.sec i).ctl.state ≠ .lockedOut) :
    e.sectionReset i = (e, .refusedState) := by
  rcases h with inactive | other
  · simp [Ev.sectionReset, inactive]
  · simp [Ev.sectionReset, other]

/-- R183: what a COMMAND leaves, where no BLIND decision is given at its end. -/
theorem State.command_ends (hw : s.Working) (may : s.mayCommand r = true)
    (hf : f (Ev.between s s.countCommand) = (Ev.between s t, res)) (hb : s.BlindSettled t) :
    ∃ u, s.event (fun e => e.command r code f) = .next u ∧ t.EndsAs u := by
  rw [State.event_command hw may, hf]
  let e := (Ev.between s t).answer r.line (answerTelegram s.settings.own r kCommandResult code res [])
  exact ⟨_, rfl, Ev.finish_endsAs (hb.blindPass (e := e) rfl rfl)⟩

theorem Ev.onSection_of_some {n : Byte} {i : SecNo} (h : secOf n.toNat = some i) (f : Ev → SecNo → Ev × Result) (e : Ev) :
    Ev.onSection n f e = f e i := by
  rw [Ev.onSection, h]

end

end Sys2Proof.Machine

section

open Sys2Proof Sys2Proof.Machine

/-- Settles O37: the checks pass, and the section's state is all that changes. -/
theorem isolationAndRelease : Obligations.IsolationAndRelease := by
  intro r n force i s working told may named active
  have armRelease : exec (.sectionRelease r n) s = s.event fun e => e.command r 0x05 (Ev.onSection n Ev.sectionRelease) := rfl
  have armIsolate (f : Bool) (h : yesNoOf force = some f) : exec (.sectionIsolate r n force) s =
      s.event fun e => e.command r 0x04 (Ev.onSection n fun e i => e.sectionIsolate i f) := by
    have arm : exec (.sectionIsolate r n force) s = s.event fun e => e.cmdSectionIsolate r n force := rfl
    rw [arm]
    unfold Ev.cmdSectionIsolate
    rw [h]
  refine ⟨fun dead opened allowed => ?_, fun isolated => ?_⟩
  · have isolated {f : Bool} (hf : yesNoOf force = some f) (poles : s.polesUpIn i = true → f = true)
        (reason : (f && s.polesUpIn i) = decide (force = 1 ∧ s.polesUpIn i = true)) :
        exec (.sectionIsolate r n force) s = .next (((s.countCommand.modCtl i fun c => { c with
          state := .isolated, reason := if force = 1 ∧ s.polesUpIn i = true then .isolatedForced else .isolated
          }).reportSection i).answerCommand r 0x04 .done) := by
      rw [armIsolate f hf]
      refine State.command_section (i := i) working told may ?_ ?_ ?_ ?_ ?_ (s.countCommand.sameSecsBut_modSec i _)
        rfl rfl rfl rfl
      · rw [Ev.onSection_of_some named, Ev.sectionIsolate_of_allowed active dead opened poles,
          show (f && (Ev.between s s.countCommand).s.polesUpIn i) = _ from reason]
        simp only [decide_eq_true_eq]
        rfl
      all_goals simp [dead, SecState.trippable]
    rcases allowed with ⟨rfl, down⟩ | rfl
    · exact isolated rfl (by simp [down]) (by simp [down])
    · exact isolated rfl (fun _ => rfl) (by simp)
  · rw [armRelease]
    refine State.command_section (i := i) working told may ?_ ?_ ?_ ?_ ?_ (s.countCommand.sameSecsBut_modSec i _)
      rfl rfl rfl rfl
    · rw [Ev.onSection_of_some named, Ev.sectionRelease_of_isolated active isolated]
      rfl
    all_goals simp [isolated, SecState.trippable]

/-- Settles O36: the section that leaves its lockout is not BLIND and overdue, so the end of the event adds nothing. -/
theorem sectionResetEndsTheLockout : Obligations.SectionResetEndsTheLockout := by
  intro r n i s working may named
  have arm : exec (.sectionReset r n) s = s.event fun e => e.command r 0x03 (Ev.onSection n Ev.sectionReset) := rfl
  refine ⟨fun active locked calm => ?_, fun told refused => ?_⟩
  · let t : State := (((s.countCommand.releaseLine i).modRcl i fun r => { r with shots := 0 }).modCtl i fun c =>
      { c with incident := none }).setSec i (if s.bothClosed i then .live else .dead) .reset
    have reset : Ev.onSection n Ev.sectionReset (Ev.between s s.countCommand) = (Ev.between s t, .done) := by
      rw [Ev.onSection_of_some named, Ev.sectionReset_of_lockedOut active locked]
      rfl
    have start : s.sameSecsBut s.countCommand i := fun _ _ => rfl
    have others : s.sameSecsBut t i := (((start.modCtl _).modRcl _).modCtl _).modCtl _
    have own : t.sec i = { s.sec i with
        ctl := { (s.sec i).ctl with
          state := if s.bothClosed i then .live else .dead, reason := .reset, tripLine := false, incident := none }
        rcl := { (s.sec i).rcl with shots := 0 } } := by
      simp only [t, State.setSec, State.releaseLine, State.sec_modCtl_self, State.sec_modRcl_self]
      rfl
    obtain ⟨u, arm', atEnd⟩ := State.command_ends (code := 0x03) working may reset
      (.of_sec rfl others (.inl (by rw [State.NotBlindOverdue, own]; exact calm)))
    refine ⟨u, arm.trans arm', ?_⟩
    rw [atEnd.sec, own]
    refine ⟨?_, rfl, rfl, fun j hj => (atEnd.sec j).trans (others j hj), atEnd.station, atEnd.incidents, atEnd.vehicles,
      atEnd.urgent, atEnd.background⟩
    simp [State.bothClosed]
  · refine arm.trans (State.command_refused working told may ?_)
    rw [Ev.onSection_of_some named, Ev.sectionReset_of_refused refused]

end

/-! SUPPORT. The expiries of the station's orders. -/

namespace Sys2Proof.Machine

open Sys2Proof

section
variable {s t : State} {f : Ev → Ev}

/-- What an event leaves, where no BLIND decision is given at its end. -/
theorem State.event_ends {e : Ev} (up : s.held = false) (hf : f (Ev.start s) = e) (old : e.old = s)
    (hb : s.BlindSettled e.s) : ∃ u, s.event f = .next u ∧ e.s.EndsAs u := by
  rw [State.event_of_up up, hf]
  exact ⟨_, rfl, Ev.finish_endsAs (hb.blindPass rfl old)⟩

/-- An event that ends by recording an incident. -/
theorem State.event_records {r : Incident} (up : s.held = false) (hf : f (Ev.start s) = (Ev.between s t).addIncident r)
    (hb : s.BlindSettled t) (ht : t.SuppliesTold) : ∃ u, s.event f = .next u ∧
      ({ t with incidents := t.incidents.add r } : State).EndsAs u ∧ u.points = t.points ∧ u.fieldPort = t.fieldPort := by
  let e := (Ev.between s t).addIncident r
  have stands : e.s = { t with incidents := t.incidents.add r } := Ev.addIncident_s _ r
  have settled : e.blindPass = e := State.BlindSettled.blindPass (s := s) (stands ▸ hb) rfl (Ev.addIncident_old _ r)
  have told : e.s.SuppliesTold := stands ▸ ht
  have idle : e.serve = [] := Ev.addIncident_serve _ r
  rw [State.event_of_up up, hf]
  refine ⟨_, rfl, stands ▸ Ev.finish_endsAs settled, ?_, ?_⟩
  · rw [Ev.finish_points settled told idle, stands]
  · rw [Ev.finish_fieldPort settled told idle (Ev.addIncident_answers _ r), stands]

/-- R26: an event that changes the station's state and no section and no point. -/
theorem State.event_station (up : s.held = false) (told : s.SuppliesTold) (hf : f (Ev.start s) = Ev.between s t)
    (hst : t.station.state ≠ s.station.state) (hm : t.mode = s.mode) (hs : t.secs = s.secs) (hp : t.points = s.points)
    (hb : t.tables = s.tables) : s.event f = .next t.reportStation := by
  rw [State.event_of_up up, hf]
  exact congrArg _ (Ev.between_finish_reporting (.of_secs hm hs) (told.of_same hb hp hs)
    (Ev.between_reports_station (fun i => congrArg Sec.reported (State.sec_eq _ _ hs i))
      (fun h => hst (congrArg Prod.fst h)) fun p => congrArg Point.reported (State.point_eq _ _ hp p)))

/-- R68: a change of the station that leaves the sections has no gate judged anew, where none waits for its gates. -/
theorem Ev.withStation_eq {e e' : Ev} (hf : f e = e') (hs : e'.s.secs = e.s.secs)
    (hg : ∀ i, (e.s.sec i).rcl.phase ≠ .gating) : e.withStation f = e' := by
  subst hf
  exact e.withStation_of_not_gating _ fun i => by rw [State.sec_eq _ _ hs]; exact hg i

/-- The station's order is due in its state. -/
theorem State.stationDue_of {o : PendingOrder} {st : StState} {k : Origin} (h : s.station.pending = some o)
    (due : o.expiry.due s.partTime = true) (hst : s.station.state = st) (hk : o.origin = k) : s.stationDue st k = true := by
  simp [State.stationDue, h, due, hst, hk]

end

end Sys2Proof.Machine

section

open Sys2Proof Sys2Proof.Machine

/-- Settles O42: each expiry changes the station, and a failure adds a record. -/
theorem stationExpiriesFailTheOrder : Obligations.StationExpiriesFailTheOrder := by
  intro o s up told pending due quiet
  refine ⟨fun closing origin => ?_, fun tripping origin => ?_, fun tripping origin => ?_⟩
  · have arm : exec .stationCloseExpiry s = s.event Ev.stationCloseExpiry := rfl
    rw [arm]
    refine State.event_station up told ?_ (by simp [closing]) rfl rfl rfl rfl
    rw [Ev.stationCloseExpiry, Ev.start_s, if_pos (State.stationDue_of pending due closing origin)]
    exact Ev.withStation_of_not_gating _ _ quiet
  · let t : State := { s with station := { s.station with
      state := if s.station.position = .closed then .closed else .opened, reason := .openFailed, pending := none,
      tripLine := !o.usesLine && s.station.tripLine } }
    have expired : (Ev.start s).stationOpenExpiry =
        (Ev.between s t).recordClosed .breakerFailure .station (some (.cause .openExpiry)) none := by
      rw [Ev.stationOpenExpiry, Ev.start_s, if_pos (State.stationDue_of pending due tripping origin)]
      refine Ev.withStation_eq ?_ (Ev.addIncident_secs _ _) quiet
      have any : s.station.pending.any PendingOrder.usesLine = o.usesLine := by rw [pending]; rfl
      dsimp only [Ev.start_s]
      rw [any]
      cases line : o.usesLine <;> simp only [t, line] <;> rfl
    obtain ⟨u, done, atEnd, points, _⟩ := State.event_records up expired (.of_secs rfl rfl) (told.of_same rfl rfl rfl)
    exact ⟨u, done, atEnd.station, atEnd.incidents, atEnd.secs, points, atEnd.vehicles, atEnd.background⟩
  · let t : State := { s with station := { s.station with state := .failed, reason := .failed, pending := none } }
    have expired : (Ev.start s).backupTripExpiry = (Ev.between s t).recordClosed .stationFailure .station none none := by
      rw [Ev.backupTripExpiry, Ev.start_s, if_pos (State.stationDue_of pending due tripping origin)]
      exact Ev.withStation_eq rfl (Ev.addIncident_secs _ _) quiet
    obtain ⟨u, done, atEnd, points, _⟩ := State.event_records up expired (.of_secs rfl rfl) (told.of_same rfl rfl rfl)
    exact ⟨u, done, atEnd.station, atEnd.incidents, atEnd.secs, points, atEnd.vehicles, atEnd.background⟩

end

/-! SUPPORT. Events that change no section, station or point, and report one vehicle. -/

namespace Sys2Proof.Machine

open Sys2Proof

section
variable {s t : State} {f : Ev → Ev}

/-- An event that changes nothing that is reported. -/
theorem State.event_still (up : s.held = false) (told : s.SuppliesTold) (hf : f (Ev.start s) = Ev.between s t)
    (hm : t.mode = s.mode) (hs : t.secs = s.secs) (hst : t.station = s.station) (hp : t.points = s.points)
    (hb : t.tables = s.tables) : s.event f = .next t := by
  rw [State.event_of_up up, hf]
  exact congrArg _ (Ev.between_finish hm hs hst hp (told.of_same hb hp hs))

/-- R115: an event that reports one vehicle, and its answer. -/
theorem Ev.between_vehicleReport_finish (told : s.SuppliesTold) (hm : t.mode = s.mode) (hs : t.secs = s.secs)
    (hst : t.station = s.station) (hp : t.points = s.points) (hb : t.tables = s.tables) (m : Telegram)
    (answers : List (Line × Telegram)) : ({ (Ev.between s t).vehicleReport m with answers := answers }).finish =
    answers.foldl (fun s a => s.pushNormal a.1 a.2) (t.pushNormal .control m) := by
  let e : Ev := { (Ev.between s t).vehicleReport m with answers := answers }
  have settled : s.BlindSettled t := .of_secs hm hs
  have none : (Ev.between s t).reports = [] :=
    Ev.between_reports_nil (fun i => congrArg Sec.reported (State.sec_eq _ _ hs i)) (congrArg Station.reported hst)
      fun p => congrArg Point.reported (State.point_eq _ _ hp p)
  have reports : e.reports = m :: (Ev.between s t).reports := rfl
  rw [none] at reports
  refine (Ev.finish_of_settled (e := e) (settled.blindPass rfl rfl) (told.of_same hb hp hs) rfl).trans ?_
  rw [reports]
  rfl

theorem State.event_vehicle {m : Telegram} (up : s.held = false) (told : s.SuppliesTold)
    (hf : f (Ev.start s) = (Ev.between s t).vehicleReport m) (hm : t.mode = s.mode) (hs : t.secs = s.secs)
    (hst : t.station = s.station) (hp : t.points = s.points) (hb : t.tables = s.tables) :
    s.event f = .next (t.pushNormal .control m) := by
  rw [State.event_of_up up, hf]
  exact congrArg _ (Ev.between_vehicleReport_finish told hm hs hst hp hb m [])

theorem State.command_vehicle {r : Req} {code : Byte} {f : Ev → Ev × Result} {res : Result} {m : Telegram}
    (hw : s.Working) (told : s.SuppliesTold) (may : s.mayCommand r = true)
    (hf : f (Ev.between s s.countCommand) = ((Ev.between s t).vehicleReport m, res)) (hm : t.mode = s.mode)
    (hs : t.secs = s.secs) (hst : t.station = s.station) (hp : t.points = s.points) (hb : t.tables = s.tables) :
    s.event (fun e => e.command r code f) = .next ((t.pushNormal .control m).answerCommand r code res) := by
  rw [State.event_command hw may, hf]
  have own : (t.pushNormal .control m).settings.own = s.settings.own := congrArg (fun x : Tables => x.settings.own) hb
  rw [State.answerCommand, own]
  exact congrArg _ (Ev.between_vehicleReport_finish told hm hs hst hp hb m
    [(r.line, answerTelegram s.settings.own r kCommandResult code res [])])

end

/-! ### Vehicles leave the table -/

section
variable {e : Ev} {n : Nat} {v : Vehicle}

/-- R105: the admission expiry of a PROVISIONAL entry. -/
theorem Ev.admissionExpiry_of_due (h : e.s.vehicle? n = some v) (prov : v.admitted = false)
    (due : dueNow e.s.partTime v.admission = true) : e.admissionExpiry n =
    e.mod fun s => (s.removeVehicle n).modVehicles fun t => { t with provExpiries := inc16 t.provExpiries } := by
  rw [Ev.admissionExpiry, h]
  simp only [prov, due, Bool.not_false, Bool.and_self, if_true]

/-- R113: the silence expiry of an ADMITTED vehicle that no incident lists. -/
theorem Ev.silenceExpiry_of_due (h : e.s.vehicle? n = some v) (admitted : v.admitted = true) (free : v.attributed = 0)
    (due : dueNow e.s.partTime v.silence = true) : e.silenceExpiry n =
    let e := e.mod fun s => (s.removeVehicle n).modVehicles fun t => { t with silenceRemovals := inc16 t.silenceRemovals }
    e.vehicleReport (e.s.report kVehicleReport (v.removedBody .silence)) := by
  cases hx : v.silence with
  | none => simp [hx, dueNow] at due
  | some x =>
    rw [hx] at due
    have due' : x.due e.s.partTime = true := due
    rw [Ev.silenceExpiry, h]
    simp only [hx, admitted, due', Bool.and_self, if_true, free]

/-- R114: VEHICLE_FORGET of a vehicle in the table. -/
theorem Ev.vehicleForget_of_known (low : 1 ≤ n) (high : n ≤ 9999) (h : e.s.vehicle? n = some v) (admitted : v.admitted = true) :
    e.vehicleForget n = if 0 < v.attributed then (e, .refusedState)
      else ((e.mod fun s => s.removeVehicle n).vehicleReport
        ((e.s.removeVehicle n).report kVehicleReport (v.removedBody .forgotten)), .done) := by
  have inside : ¬ (n = 0 ∨ 9999 < n) := by omega
  rw [Ev.vehicleForget, if_neg inside, h]
  simp only [admitted, if_true]
  rfl

end

end Sys2Proof.Machine

section

open Sys2Proof Sys2Proof.Machine

/-- Settles O48: a removal changes the vehicle table alone. -/
theorem vehiclesAreRemoved : Obligations.VehiclesAreRemoved := by
  intro n v s up told known
  refine ⟨fun prov due => ?_, fun admitted free due => ?_, fun r w loaded may number low high admitted => ?_⟩
  · have arm : exec (.admissionExpiry n) s = s.event fun e => e.admissionExpiry n := rfl
    rw [arm]
    exact State.event_still up told (Ev.admissionExpiry_of_due (e := Ev.start s) known prov due) rfl rfl rfl rfl rfl
  · have arm : exec (.silenceExpiry n) s = s.event fun e => e.silenceExpiry n := rfl
    rw [arm]
    exact State.event_vehicle up told (Ev.silenceExpiry_of_due (e := Ev.start s) known admitted free due) rfl rfl rfl rfl rfl
  · subst number
    have arm : exec (.vehicleForget r w) s = s.event fun e => e.command r 0x0D fun e => e.vehicleForget w.toNat := rfl
    have forget := Ev.vehicleForget_of_known (e := Ev.between s s.countCommand) low high known admitted
    rw [arm]
    refine ⟨fun free => ?_, fun listed => ?_⟩
    · rw [if_neg (by omega)] at forget
      exact State.command_vehicle ⟨up, loaded⟩ told may forget rfl rfl rfl rfl rfl
    · rw [if_pos listed] at forget
      exact State.command_refused ⟨up, loaded⟩ told may forget

end

/-! SUPPORT. Events of one point whose queue is empty or is not served. -/

namespace Sys2Proof.Machine

open Sys2Proof

/-! ### Changes of one point's record -/

theorem State.modPoint_modPoint (s : State) (p : PointNo) (f g : Point → Point) :
    (s.modPoint p f).modPoint p g = s.modPoint p fun x => g (f x) := by
  simp [State.modPoint]

theorem State.modPoint_congr {s : State} {p : PointNo} {f g : Point → Point} (h : f (s.point p) = g (s.point p)) :
    s.modPoint p f = s.modPoint p g := by
  have h' : f s.points[p] = g s.points[p] := h
  rw [State.modPoint, State.modPoint, h']

/-- One point's record is all that changed of what is reported or told, and its supply flag stands. -/
structure State.OnlyPoint (s t : State) (p : PointNo) : Prop where
  mode : t.mode = s.mode
  secs : t.secs = s.secs
  station : t.station = s.station
  tables : t.tables = s.tables
  points : s.samePointsBut t p
  supply : (t.point p).supplyLive = (s.point p).supplyLive

theorem State.OnlyPoint.modPoint (s t : State) {p : PointNo} (hm : t.mode = s.mode) (hs : t.secs = s.secs)
    (hst : t.station = s.station) (hb : t.tables = s.tables) (hp : t.points = s.points) {f : Point → Point}
    (hf : (f (s.point p)).supplyLive = (s.point p).supplyLive) : s.OnlyPoint (t.modPoint p f) p where
  mode := hm
  secs := hs
  station := hst
  tables := hb
  points := fun q hq => (t.point_modPoint_of_ne hq.symm f).trans (State.point_eq _ _ hp q)
  supply := by rw [State.point_modPoint_self, State.point_eq _ _ hp, hf]

section
variable {s t : State} {p : PointNo}

theorem State.OnlyPoint.told (h : s.OnlyPoint t p) (told : s.SuppliesTold) : t.SuppliesTold := by
  intro q
  have entry : t.pointEntry q = s.pointEntry q := congrArg (fun x : Tables => x.points[q]) h.tables
  have supply : (t.point q).supplyLive = (s.point q).supplyLive := by
    by_cases hq : q = p
    · rw [hq, h.supply]
    · rw [h.points q hq]
  rw [entry, supply, State.sec_eq _ _ h.secs]
  exact told q

end

section
variable {x y : Point} (h : x.reported = y.reported)

include h

theorem Point.activity_of_reported : x.activity = y.activity := congrArg (fun z => z.2.1) h
theorem Point.occupancy_of_reported : x.occupancy = y.occupancy := congrArg (fun z => z.2.2.2.1) h
theorem Point.countError_of_reported : x.countError = y.countError := congrArg (fun z => z.2.2.2.2.1) h
theorem Point.lock_of_reported : x.lock = y.lock := congrArg (fun z => z.2.2.2.2.2.1) h

end

/-! ### The end of an event of one point -/

section
variable {s t : State} {p : PointNo}

/-- R126: the service of an empty queue changes nothing. -/
theorem Ev.serveMarked_of_empty {e : Ev} (h : ∀ q ∈ e.serve, (e.s.point q).queue = []) : e.serveMarked = e := by
  refine e.forPoints_id _ fun q => ?_
  by_cases hq : q ∈ e.serve
  · have served : e.s.serve q = e.s := by rw [State.serve, h q hq]; rfl
    simp [hq, Ev.mod, served]
  · simp [hq]

/-- An event that began in `s` and stands in `t`, with heads to serve and answers to give. -/
def Ev.at (s t : State) (marks : List PointNo) (answers : List (Line × Telegram)) : Ev :=
  { Ev.between s t with serve := marks, answers := answers }

theorem Ev.at_finish {marks : List PointNo} (answers : List (Line × Telegram)) (h : s.OnlyPoint t p)
    (told : s.SuppliesTold) (hq : ∀ q ∈ marks, (t.point q).queue = []) : (Ev.at s t marks answers).finish =
    answers.foldl (fun s a => s.pushNormal a.1 a.2) (t.pushAll .control (Ev.between s t).reports) := by
  have settled : s.BlindSettled t := .of_secs h.mode h.secs
  have served : (Ev.at s t marks answers).serveMarked = Ev.at s t marks answers := Ev.serveMarked_of_empty hq
  have notices : (Ev.at s t marks answers).forPoints Ev.supplyNotice = Ev.at s t marks answers :=
    Ev.supplyNotices_of_told _ (h.told told)
  unfold Ev.finish Ev.settle
  rw [settled.blindPass (e := Ev.at s t marks answers) rfl rfl, notices, served]
  rfl

/-- R137: the point's report is queued. -/
theorem Ev.at_finish_moved {marks : List PointNo} (answers : List (Line × Telegram)) (h : s.OnlyPoint t p)
    (told : s.SuppliesTold) (hq : ∀ q ∈ marks, (t.point q).queue = [])
    (moved : (t.point p).reported ≠ (s.point p).reported) : (Ev.at s t marks answers).finish =
    answers.foldl (fun s a => s.pushNormal a.1 a.2) (t.reportPoint p) := by
  rw [Ev.at_finish answers h told hq,
    Ev.between_reports_point (fun i => congrArg Sec.reported (State.sec_eq _ _ h.secs i)) (congrArg Station.reported h.station)
      (fun q hq => congrArg Point.reported (h.points q hq)) moved]
  rfl

/-- R137: nothing is reported of a point none of whose reported fields changed. -/
theorem Ev.at_finish_same {marks : List PointNo} (answers : List (Line × Telegram)) (h : s.OnlyPoint t p)
    (told : s.SuppliesTold) (hq : ∀ q ∈ marks, (t.point q).queue = [])
    (same : (t.point p).reported = (s.point p).reported) : (Ev.at s t marks answers).finish =
    answers.foldl (fun s a => s.pushNormal a.1 a.2) t := by
  have points (q : PointNo) : (t.point q).reported = (s.point q).reported := by
    by_cases hq : q = p
    · rw [hq, same]
    · rw [h.points q hq]
  rw [Ev.at_finish answers h told hq,
    Ev.between_reports_nil (fun i => congrArg Sec.reported (State.sec_eq _ _ h.secs i)) (congrArg Station.reported h.station)
      points]
  rfl

/-- R137, R183: a COMMAND that changes what is reported of one point. -/
theorem State.command_point {r : Req} {code : Byte} {f : Ev → Ev × Result} {res : Result} {marks : List PointNo}
    (hw : s.Working) (may : s.mayCommand r = true) (told : s.SuppliesTold)
    (hf : f (Ev.between s s.countCommand) = (Ev.at s t marks [], res)) (h : s.OnlyPoint t p)
    (hq : ∀ q ∈ marks, (t.point q).queue = []) (moved : (t.point p).reported ≠ (s.point p).reported) :
    s.event (fun e => e.command r code f) = .next ((t.reportPoint p).answerCommand r code res) := by
  rw [State.event_command hw may, hf]
  have own : (t.reportPoint p).settings.own = s.settings.own := congrArg (fun x : Tables => x.settings.own) h.tables
  rw [State.answerCommand, own]
  exact congrArg _ (Ev.at_finish_moved [(r.line, answerTelegram s.settings.own r kCommandResult code res [])] h told hq moved)

end

end Sys2Proof.Machine

/-! SUPPORT. The commands to points, and the reports, passages, requests and expiries of points. -/

namespace Sys2Proof.Machine

open Sys2Proof

section
variable {e : Ev} {p : PointNo} {l : Leg}

theorem Ev.onPoint_of_some {n : Byte} (h : pointOf n.toNat = some p) (f : Ev → PointNo → Ev × Result) (e : Ev) :
    Ev.onPoint n f e = f e p := by
  rw [Ev.onPoint, h]

theorem legOf_code (l : Leg) : legOf l.code = some l := by
  cases l <;> rfl

/-- R133: the checks of a throw by the control station pass. -/
theorem State.judgePointSet_accepted {s : State} (active : (s.pointEntry p).active = true)
    (rest : (s.point p).activity = .atRest) (other : (s.point p).position ≠ l.pos) (empty : (s.point p).occupancy = 0)
    (counted : (s.point p).countError = false) (free : (s.point p).obstruction = none) (live : (s.point p).supplyLive = true)
    (queue : (s.point p).queue = []) (lock : (s.point p).lock = none ∨ (s.point p).lock = some l)
    (mode : s.mode ≠ .observe) : s.judgePointSet p l true = .accepted := by
  have unlocked : (s.point p).lock.any (· != l) = false := by
    rcases lock with h | h <;> simp [h]
  simp [State.judgePointSet, active, rest, other, empty, counted, free, live, queue, unlocked, mode]

theorem Ev.pointLock_of_atRest (active : (e.s.pointEntry p).active = true) (rest : (e.s.point p).activity = .atRest)
    (other : (e.s.point p).lock ≠ some l) (there : (e.s.point p).position = l.pos) :
    e.pointLock p l = ((e.mod fun s => s.modPoint p fun x => { x with lock := some l }).serveHead p, .done) := by
  simp [Ev.pointLock, active, rest, other, there]

theorem Ev.pointUnlock_of_locked (active : (e.s.pointEntry p).active = true) (locked : (e.s.point p).lock ≠ none) :
    e.pointUnlock p = ((e.mod fun s => s.modPoint p fun x => { x with lock := none }).serveHead p, .done) := by
  have some' : (e.s.point p).lock.isNone = false := Option.isNone_eq_false_iff.mpr (Option.isSome_iff_ne_none.mpr locked)
  simp [Ev.pointUnlock, active, some']

theorem Ev.pointClear_of_failed (active : (e.s.pointEntry p).active = true) (failed : (e.s.point p).activity = .failed) :
    e.pointClear p = ((e.mod fun s => s.modPoint p Point.cleared).serveHead p, .done) := by
  simp [Ev.pointClear, active, failed]

end

end Sys2Proof.Machine

section

open Sys2Proof Sys2Proof.Machine

/-- Settles O52: the queue is empty, so that serving its head changes nothing. -/
theorem pointCommandsAreObeyed : Obligations.PointCommandsAreObeyed := by
  intro r n p l s working told may named active empty
  have only (f : Point → Point) (hf : (f (s.point p)).supplyLive = (s.point p).supplyLive) :
      s.OnlyPoint (s.countCommand.modPoint p f) p := .modPoint s s.countCommand rfl rfl rfl rfl rfl hf
  have queue (f : Point → Point) (hf : (f (s.point p)).queue = []) :
      ∀ q ∈ [p], ((s.countCommand.modPoint p f).point q).queue = [] := by
    intro q hq
    rw [List.mem_singleton.mp hq, State.point_modPoint_self]
    exact hf
  refine ⟨fun rest other clear counted free live lock mode => ?_, fun rest there other => ?_, fun locked => ?_,
    fun failed => ?_⟩
  · have arm : exec (.pointSet r n l.code) s = s.event fun e => e.command r 0x09 (Ev.onPoint n fun e p => e.pointSet p l) := by
      have arm' : exec (.pointSet r n l.code) s = s.event fun e => e.cmdPointSet r n l.code := rfl
      rw [arm']
      unfold Ev.cmdPointSet
      rw [legOf_code]
    have judged : (Ev.between s s.countCommand).s.judgePointSet p l true = .accepted :=
      State.judgePointSet_accepted (s := s.countCommand) active rest other clear counted free live empty lock mode
    rw [arm]
    refine State.command_point (marks := []) working may told ?_ (.modPoint s (s.countCommand.pushNormal .field _) rfl rfl rfl rfl rfl (by rfl)) nofun fun h => ?_
    · rw [Ev.onPoint_of_some named, Ev.pointSet, judged]
      rfl
    · rw [State.point_modPoint_self] at h
      exact absurd ((Point.activity_of_reported h).trans rest) nofun
  · have arm : exec (.pointLock r n l.code) s = s.event fun e => e.command r 0x0A (Ev.onPoint n fun e p => e.pointLock p l) := by
      have arm' : exec (.pointLock r n l.code) s = s.event fun e => e.cmdPointLock r n l.code := rfl
      rw [arm']
      unfold Ev.cmdPointLock
      rw [legOf_code]
    rw [arm]
    refine State.command_point working may told ?_ (only _ rfl) (queue _ empty) fun h => ?_
    · rw [Ev.onPoint_of_some named, Ev.pointLock_of_atRest active rest other there]
      rfl
    · rw [State.point_modPoint_self] at h
      exact other (Point.lock_of_reported h).symm
  · have arm : exec (.pointUnlock r n) s = s.event fun e => e.command r 0x0B (Ev.onPoint n Ev.pointUnlock) := rfl
    rw [arm]
    refine State.command_point working may told ?_ (only _ rfl) (queue _ empty) fun h => ?_
    · rw [Ev.onPoint_of_some named, Ev.pointUnlock_of_locked active locked]
      rfl
    · rw [State.point_modPoint_self] at h
      exact locked (Point.lock_of_reported h).symm
  · have arm : exec (.pointClear r n) s = s.event fun e => e.command r 0x0C (Ev.onPoint n Ev.pointClear) := rfl
    rw [arm]
    refine State.command_point working may told ?_ (only _ rfl) (queue _ empty) fun h => ?_
    · rw [Ev.onPoint_of_some named, Ev.pointClear_of_failed active failed]
      have cleared : s.countCommand.modPoint p Point.cleared = s.countCommand.modPoint p fun x => { x with
          occupancy := 0, countError := false, obstruction := none, activity := .atRest, failure := none,
          position := .unknown, candidate := none } := State.modPoint_congr (if_pos failed)
      rw [Ev.between_mod, cleared]
      rfl
    · rw [State.point_modPoint_self] at h
      exact absurd ((Point.activity_of_reported h).trans failed) nofun

end

/-! SUPPORT. What is delivered to the points, and the expiries of the points. -/

namespace Sys2Proof.Machine

open Sys2Proof

section
variable {s t : State} {p : PointNo} {f : Ev → Ev} {marks : List PointNo}

theorem State.modPoint_same {g : Point → Point} (h : g (s.point p) = s.point p) : s.modPoint p g = s := by
  have h' : g s.points[p] = s.points[p] := h
  rw [State.modPoint, h']
  simp

/-- R121: nothing is refused where nothing is queued. -/
theorem State.refuseAll_of_empty (h : (s.point p).queue = []) (r : RouteReason) : s.refuseAll p r = s := by
  have none : (s.point p).queue.foldl (fun s q => s.refuse p q.vehicle q.leg r) s = s := by rw [h]; rfl
  rw [State.refuseAll, none]
  exact State.modPoint_same (by rw [← h])

theorem Ev.mod_same {e : Ev} {g : State → State} (h : g e.s = e.s) : e.mod g = e := by
  rw [Ev.mod, h]

/-- R118: a delivery that changes what is reported of one point. -/
theorem State.delivery_point (hw : s.Working) (told : s.SuppliesTold) (hf : f (Ev.start s) = Ev.at s t marks [])
    (h : s.OnlyPoint t p) (hq : ∀ q ∈ marks, (t.point q).queue = []) (moved : (t.point p).reported ≠ (s.point p).reported) :
    s.delivery f = .next (t.reportPoint p) := by
  rw [State.delivery_of_working hw, hf]
  exact congrArg _ (Ev.at_finish_moved [] h told hq moved)

/-- R118: a delivery that changes nothing that is reported of one point. -/
theorem State.delivery_point_same (hw : s.Working) (told : s.SuppliesTold) (hf : f (Ev.start s) = Ev.between s t)
    (h : s.OnlyPoint t p) (same : (t.point p).reported = (s.point p).reported) : s.delivery f = .next t := by
  rw [State.delivery_of_working hw, hf]
  exact congrArg _ (Ev.at_finish_same [] h told nofun same)

/-- The same, for an event that is not a delivery. -/
theorem State.event_point_same (up : s.held = false) (told : s.SuppliesTold) (hf : f (Ev.start s) = Ev.between s t)
    (h : s.OnlyPoint t p) (same : (t.point p).reported = (s.point p).reported) : s.event f = .next t := by
  rw [State.event_of_up up, hf]
  exact congrArg _ (Ev.at_finish_same [] h told nofun same)

theorem State.delivery_still (hw : s.Working) (told : s.SuppliesTold) (hf : f (Ev.start s) = Ev.between s t)
    (hm : t.mode = s.mode) (hs : t.secs = s.secs) (hst : t.station = s.station) (hp : t.points = s.points)
    (hb : t.tables = s.tables) : s.delivery f = .next t := by
  rw [State.delivery_of_working hw, hf]
  exact congrArg _ (Ev.between_finish hm hs hst hp (told.of_same hb hp hs))

/-- R119: a report to an active point is counted. -/
theorem Ev.takePointPosition_of_blade {e : Ev} {body : List Byte} {b : Blade} (active : (e.s.pointEntry p).active = true)
    (hb : pointPositionOf body = some (some b)) : e.takePointPosition p body =
    (e.mod fun s => s.modPoint p fun x => x.count fun c => { c with reports := inc16 c.reports }).bladeReport p b := by
  rw [Ev.takePointPosition, active, hb]
  rfl

theorem Ev.takePointPosition_of_fault {e : Ev} {body : List Byte} (active : (e.s.pointEntry p).active = true)
    (hb : pointPositionOf body = some none) : e.takePointPosition p body =
    (e.mod fun s => s.modPoint p fun x => x.count fun c => { c with reports := inc16 c.reports }).mod fun s =>
      s.pointFault p := by
  rw [Ev.takePointPosition, active, hb]
  rfl

/-- R119: the first report of a pair. -/
theorem Ev.bladeReport_of_first {e : Ev} {b : Blade} (works : (e.s.point p).activity ≠ .failed)
    (other : (e.s.point p).candidate ≠ some b) :
    e.bladeReport p b = e.mod fun s => s.modPoint p fun x => { x with candidate := some b } := by
  rw [Ev.bladeReport, if_neg works, if_neg other]

/-- R120: the second report of the leg a throw was ordered to. -/
theorem Ev.bladeReport_of_thrown {e : Ev} {m : Motion} (same : (e.s.point p).candidate = some m.leg.blade)
    (throwing : (e.s.point p).activity = .throwing) (motion : (e.s.point p).motion = some m) :
    e.bladeReport p m.leg.blade = (e.mod fun s => s.modPoint p fun x =>
      { x with position := m.leg.pos, activity := .atRest, motion := none }).serveHead p := by
  rw [Ev.bladeReport, if_neg (by rw [throwing]; exact nofun), if_pos same, throwing, motion]
  exact if_pos rfl

/-- R121: a FAULT report of a point whose queue is empty. -/
theorem State.pointFault_of_empty (works : (s.point p).activity ≠ .failed) (empty : (s.point p).queue = []) :
    s.pointFault p = s.modPoint p fun x => { x with
      activity := .failed, failure := some .faultReported, position := .unknown, candidate := none, motion := none } := by
  rw [State.pointFault, if_neg works]
  exact State.refuseAll_of_empty (by rw [State.point_modPoint_self]; exact empty) _

theorem pointPositionOf_code (l : Leg) : pointPositionOf [l.code] = some (some l.blade) := by
  cases l <;> rfl

/-- R130: what a point becomes whose throw does not end in time. -/
def Point.overdue (why : PointFailReason) (x : Point) : Point :=
  { x.count fun c => { c with failures := inc16 c.failures } with
    activity := .failed, failure := some why, position := .unknown, candidate := none, motion := none }

/-- R130: why it fails. -/
def Point.overdueReason (x : Point) : PointFailReason := if x.supplyLive then .timeout else .supplyLost

/-- R130: the throw expiry of a point whose queue is empty. -/
theorem Ev.throwExpiry_of_due {m : Motion} (throwing : (s.point p).activity = .throwing)
    (motion : (s.point p).motion = some m) (due : m.expiry.due s.partTime = true) (empty : (s.point p).queue = []) :
    (Ev.start s).throwExpiry p = (Ev.between s (s.modPoint p (Point.overdue (s.point p).overdueReason))).recordClosed
      .pointFailure (.point p) (some (.point (s.point p).overdueReason)) none := by
  have due' : (s.point p).activity = .throwing ∧ dueNow s.partTime ((s.point p).motion.map Motion.expiry) = true := by
    rw [motion]
    exact ⟨throwing, due⟩
  rw [Ev.throwExpiry, Ev.start_s, if_pos due', Ev.throwFailed]
  refine Ev.mod_same (State.refuseAll_of_empty ?_ _)
  rw [Ev.recordClosed, Ev.addIncident_s]
  change ((s.modPoint p (Point.overdue (s.point p).overdueReason)).point p).queue = []
  rw [State.point_modPoint_self]
  exact empty

end

end Sys2Proof.Machine

section

open Sys2Proof Sys2Proof.Machine

/-- Settles O49: the queue is empty, so that a served head and refused requests change nothing. -/
theorem pointReportsAndThrowExpiry : Obligations.PointReportsAndThrowExpiry := by
  intro p l s working told
  obtain ⟨up, loaded⟩ := id working
  have arm (b : Byte) : exec (.pointPosition p [b]) s = s.delivery fun e => e.takePointPosition p [b] := rfl
  have counted : (s.modPoint p fun x => x.count fun c => { c with reports := inc16 c.reports }).point p =
      (s.point p).count fun c => { c with reports := inc16 c.reports } := State.point_modPoint_self s p _
  refine ⟨fun active works other => ?_, fun m active same throwing motion leg empty => ?_, fun active works empty => ?_,
    fun m throwing motion due empty => ?_⟩
  · rw [arm]
    refine State.delivery_point_same working told ?_ (.modPoint s s rfl rfl rfl rfl rfl (by rfl)) ?_
    · rw [Ev.takePointPosition_of_blade (e := Ev.start s) active (pointPositionOf_code l), Ev.start_mod,
        Ev.bladeReport_of_first (by rw [Ev.between_s, counted]; exact works) (by rw [Ev.between_s, counted]; exact other),
        Ev.between_mod, State.modPoint_modPoint]
      rfl
    · rw [State.point_modPoint_self]
      rfl
  · subst leg
    rw [arm]
    refine State.delivery_point (marks := [p]) working told ?_ (.modPoint s s rfl rfl rfl rfl rfl (by rfl)) ?_ fun h => ?_
    · rw [Ev.takePointPosition_of_blade (e := Ev.start s) active (pointPositionOf_code m.leg), Ev.start_mod,
        Ev.bladeReport_of_thrown (by rw [Ev.between_s, counted]; exact same) (by rw [Ev.between_s, counted]; exact throwing)
          (by rw [Ev.between_s, counted]; exact motion), Ev.between_mod, State.modPoint_modPoint]
      rfl
    · intro q hq
      rw [List.mem_singleton.mp hq, State.point_modPoint_self]
      exact empty
    · rw [State.point_modPoint_self] at h
      exact absurd ((Point.activity_of_reported h).trans throwing) nofun
  · rw [arm]
    refine State.delivery_point (marks := []) working told ?_ (.modPoint s s rfl rfl rfl rfl rfl (by rfl)) nofun fun h => ?_
    · rw [Ev.takePointPosition_of_fault (e := Ev.start s) active rfl, Ev.start_mod, Ev.between_mod,
        State.pointFault_of_empty (by rw [counted]; exact works) (by rw [counted]; exact empty), State.modPoint_modPoint]
      rfl
    · rw [State.point_modPoint_self] at h
      exact works (Point.activity_of_reported h).symm
  · have point := State.point_modPoint_self s p (Point.overdue (s.point p).overdueReason)
    have stands : s.OnlyPoint (s.modPoint p (Point.overdue (s.point p).overdueReason)) p :=
      .modPoint s s rfl rfl rfl rfl rfl rfl
    have failed := Ev.throwExpiry_of_due throwing motion due empty
    obtain ⟨u, done, atEnd, points, field⟩ := State.event_records (f := fun e => e.throwExpiry p) up failed (.of_secs rfl rfl) (stands.told told)
    refine ⟨u, done, ?_, atEnd.incidents, fun q hq => ?_, atEnd.secs, atEnd.station, atEnd.vehicles, field, atEnd.background⟩
    · rw [State.point_eq _ _ points, point]
      rfl
    · rw [State.point_eq _ _ points]
      exact stands.points q hq

end

/-! SUPPORT. Passages at the contacts of a point. -/

namespace Sys2Proof.Machine

open Sys2Proof

section
variable {e : Ev} {p : PointNo} {h l : Byte}

/-- R122: a well-formed passage at a contact of its role. -/
theorem Ev.takeContact_of_role {role : ContactRole} (active : (e.s.pointEntry p).active = true)
    (known : read16 h l ≤ 9999) : e.takeContact p role [ContactRole.code role, h, l] = e.passage p role (read16 h l) := by
  rw [Ev.takeContact, active]
  simp only [Bool.not_true, Bool.false_eq_true, if_false, ne_eq, not_true_eq_false, Nat.not_lt.mpr known]

theorem Ev.takeContact_of_other_role {role : ContactRole} {b : Byte} (active : (e.s.pointEntry p).active = true)
    (other : b ≠ ContactRole.code role) : e.takeContact p role [b, h, l] =
    e.mod fun s => s.modSupervisor fun c => { c with roleMismatch := inc16 c.roleMismatch } := by
  rw [Ev.takeContact, active]
  exact if_pos other

end

section
variable {s t : State} {p : PointNo}

/-- R123: a CLEAR passage that empties the queue and locates no vehicle. -/
theorem Ev.clearPassage_of_emptied {v : Nat} (hq : clearQueue v (t.point p).queue = [])
    (hv : v = 0 ∨ t.vehicle? v = none) : ∃ marks, (∀ q ∈ marks, q = p) ∧ (Ev.between s t).clearPassage p v =
    Ev.at s (t.modPoint p fun x => { x.leave with queue := [] }) marks [] := by
  have located {u : State} (h : u.vehicle? v = t.vehicle? v) (o : Option SecNo) :
      (if v = 0 then Ev.between s u else (Ev.between s u).locate v p o) = Ev.between s u := by
    rcases hv with rfl | unknown
    · exact if_pos rfl
    · split
      · rfl
      · rw [Ev.locate, Ev.between_s, h, unknown]
  rw [Ev.clearPassage]
  simp only [Ev.between_mod, Ev.between_s, hq]
  rw [located (u := t.modPoint p _) rfl]
  split
  · exact ⟨[p], by simp, rfl⟩
  · exact ⟨[], by simp, rfl⟩

end

end Sys2Proof.Machine

section

open Sys2Proof Sys2Proof.Machine

/-- Settles O50: a passage changes the point's record alone; the queue is empty after a CLEAR. -/
theorem passagesMoveTheOccupancy : Obligations.PassagesMoveTheOccupancy := by
  intro p h l s working told active known
  have arm (role : ContactRole) (b : Byte) : exec (.contact p role [b, h, l]) s =
    s.delivery fun e => e.takeContact p role [b, h, l] := rfl
  have approached {g : Point → Point} (hg : ((s.point p).count fun c => { c with passages := inc16 c.passages }).approach =
      g (s.point p)) : (Ev.start s).takeContact p .approach [1, h, l] = Ev.at s (s.modPoint p g) [] [] := by
    refine (Ev.takeContact_of_role (e := Ev.start s) (role := .approach) active known).trans ?_
    rw [Ev.passage, Ev.start_mod, Ev.between_mod, State.modPoint_modPoint, State.modPoint_congr hg]
    rfl
  have cleared {g : Point → Point} (hv : read16 h l = 0 ∨ s.vehicle? (read16 h l) = none)
      (hq : clearQueue (read16 h l) (s.point p).queue = [])
      (hg : { ((s.point p).count fun c => { c with passages := inc16 c.passages }).leave with queue := [] } = g (s.point p)) :
      ∃ marks, (∀ q ∈ marks, q = p) ∧
        (Ev.start s).takeContact p .clear [2, h, l] = Ev.at s (s.modPoint p g) marks [] := by
    obtain ⟨marks, only, passage⟩ := Ev.clearPassage_of_emptied (s := s)
      (t := s.modPoint p fun x => x.count fun c => { c with passages := inc16 c.passages }) (p := p)
      (by rw [State.point_modPoint_self]; exact hq) hv
    refine ⟨marks, only, (Ev.takeContact_of_role (e := Ev.start s) (role := .clear) active known).trans ?_⟩
    rw [Ev.passage, Ev.start_mod]
    refine passage.trans ?_
    rw [State.modPoint_modPoint, State.modPoint_congr hg]
  have left {g : Point → Point} (hv : read16 h l = 0 ∨ s.vehicle? (read16 h l) = none)
      (hq : clearQueue (read16 h l) (s.point p).queue = []) (low : 0 < (s.point p).occupancy)
      (hg : { (s.point p).count fun c => { c with passages := inc16 c.passages } with
        occupancy := (s.point p).occupancy - 1, queue := [] } = g (s.point p)) :
      s.delivery (fun e => e.takeContact p .clear [2, h, l]) = .next ((s.modPoint p g).reportPoint p) := by
    obtain ⟨marks, only, passage⟩ := cleared hv hq ((congrArg (fun x : Point => { x with queue := [] }) (if_pos low)).trans hg)
    have emptied : ((s.modPoint p g).point p).queue = [] := by
      rw [State.point_modPoint_self, ← hg]
    refine State.delivery_point working told passage (.modPoint s s rfl rfl rfl rfl rfl (by rw [← hg]; rfl))
      (fun q hq => by rw [only q hq, emptied]) fun h => ?_
    rw [State.point_modPoint_self, ← hg] at h
    have occupancy : (s.point p).occupancy - 1 = (s.point p).occupancy := Point.occupancy_of_reported h
    omega
  refine ⟨fun low => ?_, fun high clear => ?_, fun empty none' low => ?_, fun q queue granted same unknown low => ?_, ?_⟩
  · rw [arm]
    refine State.delivery_point (marks := []) working told (approached ?_)
      (.modPoint s s rfl rfl rfl rfl rfl rfl) nofun fun h => ?_
    · exact if_pos low
    · rw [State.point_modPoint_self] at h
      exact absurd (Point.occupancy_of_reported h) (Nat.succ_ne_self _)
  · rw [arm]
    refine State.delivery_point (marks := []) working told (approached ?_)
      (.modPoint s s rfl rfl rfl rfl rfl rfl) nofun fun h => ?_
    · exact if_neg (Nat.not_lt.mpr high)
    · rw [State.point_modPoint_self] at h
      exact absurd ((Point.countError_of_reported h).trans clear) nofun
  · rw [arm]
    exact left (.inl none') (by rw [empty, none']; rfl) low (by simp [Point.count, empty])
  · rw [arm]
    refine left (.inr unknown) ?_ low rfl
    have head : q.granted.isSome = true := Option.isSome_iff_ne_none.mpr granted
    simp [clearQueue, queue, head, same]
  · rw [arm]
    exact State.delivery_still working told (Ev.takeContact_of_other_role (e := Ev.start s) active (by decide)) rfl rfl rfl
      rfl rfl

end

/-! SUPPORT. Route requests and the expiries of their lives. -/

namespace Sys2Proof.Machine

open Sys2Proof

section
variable {e : Ev} {s : State} {p : PointNo} {l : Leg} {v : Nat}

theorem be8_pointNum {n : Byte} (h : pointOf n.toNat = some p) : be8 (pointNum p) = [n] := by
  unfold pointOf at h
  split at h
  · rename_i inside
    obtain rfl := Option.some.inj h
    have back : pointNum ⟨n.toNat - 1, by omega⟩ = n.toNat := Nat.sub_add_cancel inside.1
    rw [back, be8, BitVec.ofNat_toNat, BitVec.setWidth_eq]
  · cases h

theorem refuseBody_of_named {n : Byte} (h : pointOf n.toNat = some p) (v : Nat) (l : Leg) (r : RouteReason) :
    refuseBody v p l r = be16 v ++ [n, l.code, r.code] := by
  rw [refuseBody, grantBody, be8_pointNum h]
  rfl

/-- R124: a well-formed ROUTE_REQUEST. -/
theorem Ev.takeRouteRequest_of_named {n v1 v0 : Byte} (named : pointOf n.toNat = some p) (low : 1 ≤ read16 v1 v0)
    (high : read16 v1 v0 ≤ 9999) (l : Leg) (e : Ev) :
    e.takeRouteRequest [v1, v0, n, l.code] = e.routeRequest (read16 v1 v0) p l := by
  have body : routeRequestOf [v1, v0, n, l.code] = some (read16 v1 v0, p, l) := by
    simp [routeRequestOf, named, legOf_code, low, high]
  rw [Ev.takeRouteRequest, body]

/-- R124: a request of a vehicle that has none at a point that works, in a mode other than OBSERVE. -/
theorem Ev.routeRequest_of_new (mode : e.s.mode ≠ .observe) (active : (e.s.pointEntry p).active = true)
    (works : (e.s.point p).activity ≠ .failed) (new : ∀ q ∈ (e.s.point p).queue, q.vehicle ≠ v) (queued : (e.s.point p).queue ≠ []) :
    e.routeRequest v p l = if requestPlaces ≤ (e.s.point p).queue.length then e.mod fun s => s.refuse p v l .queueFull
      else e.mod fun s => s.modPoint p fun x =>
        { x.count fun c => { c with queued := inc16 c.queued } with
          queue := x.queue ++ [⟨v, l, s.partTime, none, ⟨s.partTime, s.settings.requestLife * 1000⟩⟩] } := by
  have unknown : (e.s.point p).queue.find? (fun q => q.vehicle == v) = none := by simpa using new
  have more : (e.s.point p).queue.isEmpty = false := by simpa using queued
  simp [Ev.routeRequest, mode, active, works, unknown, more]

/-- R128: a refusal where there is a gateway. -/
theorem State.refuse_of_gateway (h : s.settings.gateway ≠ 0) (v : Nat) (l : Leg) (r : RouteReason) : s.refuse p v l r =
    (s.pushNormal .field (s.telegram s.settings.gateway kRouteRefuse (refuseBody v p l r))).modPoint p fun x =>
      x.count fun c => { c with refusals := inc16 c.refusals } := by
  rw [State.refuse, State.routeTelegram, if_neg h]

/-- R127: the life expiry of a request behind the head. -/
theorem Ev.lifeExpiry_of_waiting {h q : Request} {rest : List Request} (queue : (e.s.point p).queue = h :: rest)
    (head : h.vehicle ≠ q.vehicle) (found : rest.find? (fun x => x.vehicle == q.vehicle) = some q)
    (due : q.life.due e.s.partTime = true) : e.lifeExpiry p q.vehicle =
    e.mod fun s => (s.refuse p q.vehicle q.leg .expired).modPoint p fun x =>
      { x with queue := x.queue.filter fun r => r.vehicle != q.vehicle } := by
  have found' : (e.s.point p).queue.find? (fun x => x.vehicle == q.vehicle) = some q := by
    rw [queue, List.find?_cons_of_neg (by simpa using head), found]
  have second : (e.s.point p).queue.head?.any (fun x => x.vehicle == q.vehicle) = false := by
    rw [queue]
    simpa using head
  simp only [Ev.lifeExpiry, found', due, if_true, Ev.requestExpired, second, Bool.false_eq_true, if_false]

end

end Sys2Proof.Machine

section

open Sys2Proof Sys2Proof.Machine

/-- Settles O51: a request behind the head and a refusal change nothing that is reported of the point. -/
theorem routeRequestsQueueAndExpire : Obligations.RouteRequestsQueueAndExpire := by
  intro p l v1 v0 n s working told named low high
  obtain ⟨up, loaded⟩ := id working
  have arm : exec (.routeRequest [v1, v0, n, l.code]) s = s.delivery fun e => e.takeRouteRequest [v1, v0, n, l.code] := rfl
  have asked : (Ev.start s).takeRouteRequest [v1, v0, n, l.code] = (Ev.start s).routeRequest (read16 v1 v0) p l :=
    Ev.takeRouteRequest_of_named named low high l _
  refine ⟨fun mode => ?_, fun mode active works new => ⟨fun queued places => ?_, fun full gateway => ?_⟩,
    fun h q rest queue head found due gateway => ?_⟩
  · rw [arm]
    refine State.delivery_still working told (asked.trans ?_) rfl rfl rfl rfl rfl
    exact if_pos mode
  · rw [arm]
    refine State.delivery_point_same working told (asked.trans ?_) (.modPoint s s rfl rfl rfl rfl rfl (by rfl)) ?_
    · rw [Ev.routeRequest_of_new (e := Ev.start s) mode active works new queued, if_neg (show ¬ requestPlaces ≤ ((Ev.start s).s.point p).queue.length from Nat.not_le.mpr places)]
      rfl
    · rw [State.point_modPoint_self]
      rfl
  · rw [arm]
    refine State.delivery_point_same working told (asked.trans ?_)
      (.modPoint s (s.pushNormal .field _) rfl rfl rfl rfl rfl (by rfl)) ?_
    · have queued : (s.point p).queue ≠ [] := fun none => by simp [none] at full
      rw [Ev.routeRequest_of_new (e := Ev.start s) mode active works new queued, if_pos (by exact full), Ev.start_mod,
        State.refuse_of_gateway gateway, refuseBody_of_named named]
      rfl
    · rw [State.point_modPoint_self]
      rfl
  · have arm' : exec (.lifeExpiry p q.vehicle) s = s.event fun e => e.lifeExpiry p q.vehicle := rfl
    rw [arm']
    refine State.event_point_same up told ?_ (.modPoint s (s.pushNormal .field _) rfl rfl rfl rfl rfl (by rfl)) ?_
    · rw [Ev.lifeExpiry_of_waiting (e := Ev.start s) queue head found due, Ev.start_mod, State.refuse_of_gateway gateway,
        refuseBody_of_named named, State.modPoint_modPoint]
      rfl
    · rw [State.point_modPoint_self]
      rfl

end

/-! SUPPORT. Reports and expiries of one section's breaker orders. -/

namespace Sys2Proof.Machine

open Sys2Proof

/-! ### The control record of one section moves -/

/-- One section's control record became `c` and its sequence record `q`, its selector stands, and so do
the other sections. -/
structure State.Moves (s t : State) (i : SecNo) (c : SectionCtl) (q : Reclose) : Prop where
  ctl : (t.sec i).ctl = c
  rcl : (t.sec i).rcl = q
  sel : (t.sec i).sel = (s.sec i).sel
  others : s.sameSecsBut t i

namespace State.Moves

variable {s t u : State} {i : SecNo} {c : SectionCtl} {q : Reclose}

theorem start (s : State) (i : SecNo) : s.Moves s i (s.sec i).ctl (s.sec i).rcl := ⟨rfl, rfl, rfl, fun _ _ => rfl⟩

theorem modSec (h : s.Moves t i c q) {f : Sec → Sec} {g : SectionCtl → SectionCtl} {k : Reclose → Reclose} (hc : ∀ x, (f x).ctl = g x.ctl)
    (hr : ∀ x, (f x).rcl = k x.rcl) (hs : ∀ x, (f x).sel = x.sel) : s.Moves (t.modSec i f) i (g c) (k q) where
  ctl := by rw [State.sec_modSec_self, hc, h.ctl]
  rcl := by rw [State.sec_modSec_self, hr, h.rcl]
  sel := by rw [State.sec_modSec_self, hs, h.sel]
  others := h.others.trans (t.sameSecsBut_modSec i f)

theorem modCtl (h : s.Moves t i c q) (f : SectionCtl → SectionCtl) : s.Moves (t.modCtl i f) i (f c) q :=
  h.modSec (k := id) (fun _ => rfl) (fun _ => rfl) fun _ => rfl

theorem modRcl (h : s.Moves t i c q) (f : Reclose → Reclose) : s.Moves (t.modRcl i f) i c (f q) :=
  h.modSec (g := id) (fun _ => rfl) (fun _ => rfl) fun _ => rfl

theorem setSec (h : s.Moves t i c q) (st : SecState) (r : SecReason) :
    s.Moves (t.setSec i st r) i { c with state := st, reason := r } q := h.modCtl _

theorem setPending (h : s.Moves t i c q) (p : Option PendingOrder) :
    s.Moves (t.setPending i p) i { c with pending := p } q := h.modCtl _

theorem setPosition (h : s.Moves t i c q) (p : Position) : s.Moves (t.setPosition i p) i { c with position := p } q :=
  h.modSec (g := fun c => { c with position := p }) (k := id) (fun _ => rfl) (fun _ => rfl) fun _ => rfl

theorem releaseLine (h : s.Moves t i c q) : s.Moves (t.releaseLine i) i { c with tripLine := false } q := h.modCtl _

theorem of_secs (h : s.Moves t i c q) (hs : u.secs = t.secs) : s.Moves u i c q where
  ctl := by rw [State.sec_eq _ _ hs, h.ctl]
  rcl := by rw [State.sec_eq _ _ hs, h.rcl]
  sel := by rw [State.sec_eq _ _ hs, h.sel]
  others := fun j hj => (State.sec_eq _ _ hs j).trans (h.others j hj)

theorem withdraw (h : s.Moves t i c q) (obj : BreakerObj) : s.Moves (t.withdraw obj) i c q := h.of_secs rfl

theorem setIncidents (h : s.Moves t i c q) (l : IncidentList) : s.Moves { t with incidents := l } i c q := h.of_secs rfl

theorem queueOrder (h : s.Moves t i c q) (obj : BreakerObj) (k : OrderKind) : s.Moves (t.queueOrder obj k) i c q := by
  rcases t.queueOrder_cases obj k with ⟨_, e⟩ | ⟨_, e⟩ <;> rw [e]
  · exact h
  · exact h.of_secs rfl

theorem ends (h : s.Moves t i c q) (k : t.EndsAs u) : s.Moves u i c q := h.of_secs k.secs

/-- R59: a BLIND decision is given to no section that is not BLIND and overdue, and acts on none that is not LIVE, CLOSING
or OPENING. -/
theorem settled (h : s.Moves t i c q) (hm : t.mode = s.mode) (calm : s.NotBlindOverdue i ∨ c.state.trippable = false) :
    s.BlindSettled t :=
  .of_sec hm h.others (calm.imp (fun k => by rw [State.NotBlindOverdue, h.sel]; exact k) fun k => by rw [h.ctl]; exact k)

end State.Moves

section
variable {s t : State} {i : SecNo} {e : Ev}

/-- What a delivery leaves, where no BLIND decision is given at its end. -/
theorem State.delivery_ends {f : Ev → Ev} (hw : s.Working) (hf : f (Ev.start s) = e) (old : e.old = s)
    (hb : s.BlindSettled e.s) : ∃ u, s.delivery f = .next u ∧ e.s.EndsAs u := by
  rw [State.delivery_of_working hw, hf]
  exact ⟨_, rfl, Ev.finish_endsAs (hb.blindPass rfl old)⟩

/-- R3, R16: a report of a position, of an active section. -/
theorem State.report_ends {b : Byte} {r : Report} {p : Position} (hw : s.Working) (active : (s.secEntry i).active = true)
    (hb : breakerReportOf [b] = some r) (hp : r.position (s.sec i).ctl.state = some p)
    (hj : (Ev.between s (s.setPosition i p)).judgeReport i (s.sec i).ctl.state r = e) (old : e.old = s)
    (settled : s.BlindSettled e.s) : ∃ u, exec (.breakerState (.sec i) [b]) s = .next u ∧ e.s.EndsAs u := by
  refine State.delivery_ends (f := fun e => e.breakerState (.sec i) [b]) hw ?_ old settled
  have placed : (Ev.start s).placed i r = Ev.between s (s.setPosition i p) := by
    rw [Ev.placed, Ev.start_s, hp]
    rfl
  have taken : (Ev.start s).breakerState (.sec i) [b] = (Ev.start s).breakerReport i r := by
    unfold Ev.breakerState
    rw [hb]
  exact taken.trans ((((Ev.start s).breakerReport_eq i r).trans (if_pos active)).trans (by rw [placed]; exact hj))

theorem State.modCtl_modCtl (s : State) (i : SecNo) (f g : SectionCtl → SectionCtl) :
    (s.modCtl i f).modCtl i g = s.modCtl i fun c => g (f c) := by
  simp [State.modCtl, State.modSec]

/-- R26: an event that changes one section's control record, and nothing else that is reported. -/
theorem State.event_section {c : SectionCtl} {q : Reclose} {f : Ev → Ev} (up : s.held = false) (told : s.SuppliesTold)
    (hf : f (Ev.start s) = Ev.between s t) (h : s.Moves t i c q) (moved : c.state ≠ (s.sec i).ctl.state)
    (calm : s.NotBlindOverdue i ∨ c.state.trippable = false) (live : c.state = .live ↔ (s.sec i).ctl.state = .live)
    (hm : t.mode = s.mode) (hst : t.station = s.station) (hp : t.points = s.points) (hb : t.tables = s.tables) :
    s.event f = .next (t.reportSection i) := by
  rw [State.event_of_up up, hf]
  refine congrArg _ (Ev.between_finish_reporting (h.settled hm calm) (told.of_live hb hp fun j => ?_)
    (Ev.between_reports_section (fun j hj => congrArg Sec.reported (h.others j hj)) (fun k => moved ?_)
      (congrArg Station.reported hst) fun p => congrArg Point.reported (State.point_eq _ _ hp p)))
  · by_cases hj : j = i
    · rw [hj, h.ctl, live]
    · rw [h.others j hj]
  · rw [← h.ctl]
    exact congrArg Prod.fst k

/-- R13: a close that the control station commanded is not a shot. -/
theorem SectionCtl.reclosing_of_command {c : SectionCtl} {o : PendingOrder} (hp : c.pending = some o)
    (ho : o.origin = .command) : c.reclosing = false := by
  simp [SectionCtl.reclosing, hp, ho]

/-- The section's order is due in its state. -/
theorem State.sectionDue_of {o : PendingOrder} {st : SecState} (h : (s.sec i).ctl.pending = some o)
    (due : o.expiry.due s.partTime = true) (hst : (s.sec i).ctl.state = st) : s.sectionDue i st = true := by
  simp [State.sectionDue, h, due, hst]

end

end Sys2Proof.Machine

section

open Sys2Proof Sys2Proof.Machine

/-- Settles O29: a close that was commanded has no incident and no sequence to go on with. -/
theorem commandedCloseEnds : Obligations.CommandedCloseEnds := by
  intro i o s up closing pending origin
  have command (p : Position) : ((s.setPosition i p).sec i).ctl.reclosing = false := by
    rw [State.setPosition_ctl]
    exact SectionCtl.reclosing_of_command pending origin
  refine ⟨fun loaded active calm => ?_, fun loaded active => ?_, fun told due => ?_⟩
  · have moves := ((State.Moves.start s i).setPosition .closed).setSec .live .commandedClose |>.setPending none
    have judged : (Ev.between s (s.setPosition i .closed)).judgeReport i (s.sec i).ctl.state .closed =
        Ev.between s (((s.setPosition i .closed).setSec i .live .commandedClose).setPending i none) := by
      rw [closing, Ev.judgeReport, Ev.confirmClose, Ev.between_s, command]
      rfl
    obtain ⟨u, done, atEnd⟩ := State.report_ends (b := 1) ⟨up, loaded⟩ active rfl (by rw [closing]; rfl) judged rfl
      (moves.settled rfl (.inl calm))
    have moved := moves.ends atEnd
    exact ⟨u, done, moved.ctl, moved.rcl, moved.others, atEnd.station, atEnd.incidents, atEnd.vehicles, atEnd.modeRec,
      atEnd.urgent, atEnd.background⟩
  · have moves := ((((State.Moves.start s i).setPosition .opened).setPending none).withdraw (.sec i)).setSec .dead .closeFailed
    have judged : (Ev.between s (s.setPosition i .opened)).judgeReport i (s.sec i).ctl.state .opened =
        Ev.between s ((((s.setPosition i .opened).setPending i none).withdraw (.sec i)).setSec i .dead .closeFailed) := by
      rw [closing, Ev.judgeReport, Ev.closeFails, Ev.between_s, command]
      rfl
    obtain ⟨u, done, atEnd⟩ := State.report_ends (b := 0) ⟨up, loaded⟩ active rfl (by rw [closing]; rfl) judged rfl
      (moves.settled rfl (.inr rfl))
    have moved := moves.ends atEnd
    exact ⟨u, done, moved.ctl, moved.rcl, moved.others, atEnd.station, atEnd.incidents, atEnd.vehicles, atEnd.modeRec,
      atEnd.urgent, atEnd.background⟩
  · have arm : exec (.closeConfirmTimeExpiry i) s = s.event fun e => e.closeConfirmTimeExpiry i := rfl
    have failed : (Ev.start s).closeConfirmTimeExpiry i =
        Ev.between s (((s.setPending i none).withdraw (.sec i)).setSec i .dead .closeFailed) := by
      rw [Ev.closeConfirmTimeExpiry, Ev.start_s, if_pos (State.sectionDue_of pending due closing), Ev.closeFails, Ev.start_s,
        SectionCtl.reclosing_of_command pending origin]
      rfl
    have order : ((s.setPending i none).withdraw (.sec i)).setSec i .dead .closeFailed =
        (s.withdraw (.sec i)).modCtl i fun c => { c with state := .dead, reason := .closeFailed, pending := none } :=
      State.modCtl_modCtl (s.withdraw (.sec i)) i (fun c => { c with pending := none })
        fun c => { c with state := .dead, reason := .closeFailed }
    have moves := ((State.Moves.start s i).withdraw (.sec i)).modCtl fun c =>
      { c with state := .dead, reason := .closeFailed, pending := none }
    rw [arm]
    exact State.event_section up told (failed.trans (congrArg _ order)) moves (by rw [closing]; exact nofun)
      (.inr rfl) (by rw [closing]; exact iff_of_false nofun nofun) rfl rfl rfl rfl

end

/-! SUPPORT. Unsolicited reports, and the opening of a section by command. -/

namespace Sys2Proof.Machine

open Sys2Proof

section
variable {s t : State} {i : SecNo} {e : Ev} {c : SectionCtl} {q : Reclose}

/-- R14: a section in no sequence leaves none. -/
theorem Ev.leaveSequence_of_idle (h : (e.s.sec i).rcl.phase = .idle) (o : IncOutcome) : e.leaveSequence i o = e := if_pos h

theorem State.Moves.assertLine (h : s.Moves t i c q) (hm : t.mode ≠ .observe) :
    s.Moves (t.assertLine i) i { c with tripLine := true } q := by
  rw [State.assertLine, if_neg hm]
  exact h.modCtl _

theorem State.modCtl_same {f : SectionCtl → SectionCtl} (h : f (s.sec i).ctl = (s.sec i).ctl) : s.modCtl i f = s := by
  have h' : { s.secs[i] with ctl := f s.secs[i].ctl } = s.secs[i] := congrArg (fun c => { s.secs[i] with ctl := c }) h
  rw [State.modCtl, State.modSec, h']
  simp

/-- R14, R15: the line is released where the order used it. -/
theorem State.releaseLineIf_eq (s : State) (i : SecNo) (b : Bool) : (if b then s.releaseLine i else s) =
    s.modCtl i fun c => { c with tripLine := !b && c.tripLine } := by
  cases b with
  | true => rfl
  | false => exact (State.modCtl_same rfl).symm

/-- R15: a commanded open is confirmed, or fails. -/
theorem State.confirmOpen_eq {o : PendingOrder} (h : (s.sec i).ctl.pending = some o) : s.confirmOpen i =
    ((s.modCtl i fun c => { c with tripLine := !o.usesLine && c.tripLine }).setPending i none).setSec i .dead
      .commandedOpen := by
  have line : (s.sec i).ctl.pending.any PendingOrder.usesLine = o.usesLine := by rw [h]; rfl
  rw [State.confirmOpen, line, State.releaseLineIf_eq]

theorem Ev.openFails_eq {o : PendingOrder} (h : (e.s.sec i).ctl.pending = some o) : e.openFails i =
    (e.mod fun s => ((s.modCtl i fun c => { c with tripLine := !o.usesLine && c.tripLine }).setPending i none).setSec i
      (if e.s.bothClosed i then .live else .dead) .openFailed).recordClosed .breakerFailure (.sec i)
      (some (.cause .openExpiry)) none := by
  have line : (e.s.sec i).ctl.pending.any PendingOrder.usesLine = o.usesLine := by rw [h]; rfl
  rw [Ev.openFails]
  simp only [Ev.mod, line, State.releaseLineIf_eq]

/-- R14: the opening that is ordered, of a section in no sequence. -/
theorem Ev.sectionOpen_of_accepted {trip : Bool} (judged : e.s.judgeOpen i true = .accepted) (mode : e.s.mode ≠ .observe)
    (idle : (e.s.sec i).rcl.phase = .idle) : e.sectionOpen i trip =
    (e.mod fun s => ((((s.queueOrder (.sec i) (if trip then .trip else .opening)).modCtl i fun c =>
      { c with tripLine := trip || c.tripLine }).setPending i (some (s.order (if trip then .trip else .opening) .command none
        trip))).setSec i .opening (if trip then .commandedTrip else .commandedOpen)), .accepted) := by
  have lined (t : State) (hm : t.mode ≠ .observe) : (if trip then t.assertLine i else t) =
      t.modCtl i fun c => { c with tripLine := trip || c.tripLine } := by
    cases trip with
    | true => exact if_neg hm
    | false => exact (State.modCtl_same rfl).symm
  have queued (k : OrderKind) := State.queueOrder_of_not_observe mode (.sec i) k
  rw [Ev.sectionOpen, judged]
  dsimp only [Ev.mod]
  rw [queued, lined _ (by exact mode), Ev.leaveSequence_of_idle]
  · rfl
  · simp only [State.setSec, State.setPending, State.sec_modCtl_self]
    exact idle

/-- R14: the checks of an opening that is made. -/
theorem State.judgeOpen_accepted (active : (s.secEntry i).active = true) (mode : s.mode ≠ .observe)
    (state : (s.sec i).ctl.state = .live ∨ (s.sec i).ctl.state = .dead ∧ (s.sec i).ctl.position ≠ .opened) :
    s.judgeOpen i true = .accepted := by
  rcases state with live | ⟨dead, position⟩
  · simp [State.judgeOpen, active, live, mode]
  · simp [State.judgeOpen, active, dead, position, mode]

/-- An event that ends by recording an incident. -/
theorem State.event_adds {r : Incident} {f : Ev → Ev} (up : s.held = false)
    (hf : f (Ev.start s) = (Ev.between s t).addIncident r) (hb : s.BlindSettled t) :
    ∃ u, s.event f = .next u ∧ ({ t with incidents := t.incidents.add r } : State).EndsAs u := by
  have stands : ((Ev.between s t).addIncident r).s = { t with incidents := t.incidents.add r } := Ev.addIncident_s _ r
  exact stands ▸ State.event_ends up hf (Ev.addIncident_old _ r) (stands ▸ hb)

end

end Sys2Proof.Machine

section

open Sys2Proof Sys2Proof.Machine

/-- Settles O30: outside a sequence a report moves the section's state and position alone. -/
theorem unsolicitedReportsMoveTheSection : Obligations.UnsolicitedReportsMoveTheSection := by
  intro i s working active calm idle
  refine ⟨fun live => ?_, fun dead closed => ?_, fun dead other => ?_⟩
  · have moves := ((State.Moves.start s i).setPosition .opened).setSec .dead .localOpen
    have judged : (Ev.between s (s.setPosition i .opened)).judgeReport i (s.sec i).ctl.state .opened =
        Ev.between s ((s.setPosition i .opened).setSec i .dead .localOpen) := by
      rw [live, Ev.judgeReport]
      exact Ev.leaveSequence_of_idle (by rw [Ev.mod_s, Ev.between_s, moves.rcl, idle]) _
    obtain ⟨u, done, atEnd⟩ := State.report_ends (b := 0) working active rfl (by rw [live]; rfl) judged rfl
      (moves.settled rfl (.inl calm))
    have moved := moves.ends atEnd
    exact ⟨u, done, moved.ctl, moved.others, atEnd.station, atEnd.incidents, atEnd.background⟩
  · have moves := ((State.Moves.start s i).setPosition .closed).setSec .live .localClose
    have judged : (Ev.between s (s.setPosition i .closed)).judgeReport i (s.sec i).ctl.state .closed =
        Ev.between s ((s.setPosition i .closed).setSec i .live .localClose) := by
      rw [dead, Ev.judgeReport]
      exact if_pos closed
    obtain ⟨u, done, atEnd⟩ := State.report_ends (b := 1) working active rfl (by rw [dead]; rfl) judged rfl
      (moves.settled rfl (.inl calm))
    have moved := moves.ends atEnd
    exact ⟨u, done, moved.ctl, moved.others, atEnd.station, atEnd.incidents, atEnd.background⟩
  · have moves := (State.Moves.start s i).setPosition .closed
    have judged : (Ev.between s (s.setPosition i .closed)).judgeReport i (s.sec i).ctl.state .closed =
        Ev.between s (s.setPosition i .closed) := by
      rw [dead, Ev.judgeReport]
      exact if_neg other
    obtain ⟨u, done, atEnd⟩ := State.report_ends (b := 1) working active rfl (by rw [dead]; rfl) judged rfl
      (moves.settled rfl (.inl calm))
    have moved := moves.ends atEnd
    exact ⟨u, done, moved.ctl, moved.others, atEnd.station, atEnd.incidents, atEnd.background⟩

/-- Settles O34: the pending order says whether its line is released. -/
theorem commandedOpenEnds : Obligations.CommandedOpenEnds := by
  intro i o s working active calm opening pending
  refine ⟨fun b hb => ?_, fun due => ?_⟩
  · have moves := (((State.Moves.start s i).setPosition .opened).modCtl fun c =>
      { c with tripLine := !o.usesLine && c.tripLine }).setPending none |>.setSec .dead .commandedOpen
    have confirmed := State.confirmOpen_eq (s := s.setPosition i .opened) (i := i) (by rw [State.setPosition_ctl]; exact pending)
    have ended {r : Report} (hr : breakerReportOf [b] = some r) (hp : r.position .opening = some .opened)
        (hj : (Ev.between s (s.setPosition i .opened)).judgeReport i .opening r =
          Ev.between s ((s.setPosition i .opened).confirmOpen i)) :
        ∃ u, exec (.breakerState (.sec i) [b]) s = .next u ∧ ((s.setPosition i .opened).confirmOpen i).EndsAs u :=
      State.report_ends (e := Ev.between s ((s.setPosition i .opened).confirmOpen i)) working active hr
        (by rwa [opening]) (by rwa [opening]) rfl (confirmed ▸ moves.settled rfl (.inl calm))
    obtain ⟨u, done, atEnd⟩ : ∃ u, exec (.breakerState (.sec i) [b]) s = .next u ∧
        ((s.setPosition i .opened).confirmOpen i).EndsAs u := by
      rcases hb with rfl | rfl
      · exact ended (r := .opened) rfl rfl rfl
      · exact ended (r := .trippedLocal) rfl rfl rfl
    rw [confirmed] at atEnd
    have moved := moves.ends atEnd
    exact ⟨u, done, moved.ctl, moved.others, atEnd.station, atEnd.incidents, atEnd.background⟩
  · have moves := (((State.Moves.start s i).modCtl fun c => { c with tripLine := !o.usesLine && c.tripLine }).setPending
      none).setSec (if s.bothClosed i then .live else .dead) .openFailed
    have fails : (Ev.start s).sectionOpenExpiry i = (Ev.start s).openFails i :=
      if_pos (State.sectionDue_of pending due opening)
    have failed := fails.trans (Ev.openFails_eq (e := Ev.start s) pending)
    obtain ⟨u, done, atEnd⟩ := State.event_adds (f := fun e => e.sectionOpenExpiry i) working.1 failed
      (moves.settled rfl (.inl calm))
    have moved := (moves.setIncidents _).ends atEnd
    refine ⟨u, done, ?_, moved.others, atEnd.station, atEnd.incidents, atEnd.background⟩
    rw [moved.ctl, State.bothClosed]
    simp

/-- Settles O33: the checks pass, and the section is in no sequence to leave. -/
theorem sectionOpenIsOrdered : Obligations.SectionOpenIsOrdered := by
  intro r n kind trip i s working may named hkind active calm state idle mode
  have arm : exec (.sectionOpen r n kind) s =
      s.event fun e => e.command r 0x02 (Ev.onSection n fun e i => e.sectionOpen i trip) := by
    have arm' : exec (.sectionOpen r n kind) s = s.event fun e => e.cmdSectionOpen r n kind := rfl
    rw [arm', hkind]
    cases trip <;> rfl
  have judged : (Ev.between s s.countCommand).s.judgeOpen i true = .accepted :=
    State.judgeOpen_accepted (s := s.countCommand) active mode state
  have opened := (Ev.onSection_of_some named (fun e i => e.sectionOpen i trip) _).trans
    (Ev.sectionOpen_of_accepted judged mode idle)
  have queued := State.queueOrder_of_not_observe (s := s.countCommand) mode (.sec i) (if trip then .trip else .opening)
  rw [Ev.between_mod, queued] at opened
  have moves := ((((State.Moves.start s i).of_secs (u := { s.countCommand with fieldPort := { s.fieldPort with
    urgent := pushUrgent s.fieldPort.urgent ⟨.sec i, if trip then .trip else .opening, s.telegram (s.secEntry i).breaker
      (if trip then .trip else .opening : OrderKind).code []⟩ } }) rfl).modCtl fun c =>
    { c with tripLine := trip || c.tripLine }).setPending
      (some (s.order (if trip then .trip else .opening) .command none trip))).setSec .opening
        (if trip then .commandedTrip else .commandedOpen)
  rw [arm]
  obtain ⟨u, done, atEnd⟩ := State.command_ends (code := 0x02) working may opened (moves.settled rfl (.inl calm))
  have moved := moves.ends atEnd
  refine ⟨u, done, ?_, ?_, ?_, moved.rcl, moved.sel, moved.others, atEnd.station, atEnd.incidents, atEnd.vehicles,
    atEnd.modeRec, atEnd.background⟩
  · rw [moved.ctl]
    cases trip <;> rfl
  · rw [atEnd.urgent]
    cases trip <;> rfl
  · rw [atEnd.sec]
    simp only [State.setSec, State.setPending, State.sec_modCtl_self]
    rfl

end

/-! SUPPORT. The closing of a section by command. -/

namespace Sys2Proof.Machine

open Sys2Proof

section
variable {s : State} {i : SecNo} {e : Ev}

/-- R11: the checks of SECTION_CLOSE, in order. -/
theorem State.judgeClose_eq (s : State) (i : SecNo) : s.judgeClose i true =
    if (s.secEntry i).active = false then .refusedState
    else if (s.sec i).ctl.state = .live then .done
    else if (s.sec i).ctl.state ≠ .dead then .refusedState
    else if s.station.state ≠ .closed ∨ (s.sec i).sel.state = .blind ∨
      (s.setOf i).thermalLimit * 500000 ≤ (s.sec i).feed.h then .refusedInterlock
    else if s.mode = .observe then .refusedState
    else .accepted := by
  have half : s.belowHalf i = false ↔ (s.setOf i).thermalLimit * 500000 ≤ (s.sec i).feed.h := by
    rw [State.belowHalf, State.halfLimit, decide_eq_false_iff_not, Nat.not_lt]
  simp only [State.judgeClose, half, Bool.not_eq_true', Bool.true_and, beq_iff_eq]

/-- R5, R11: what the checks of a close that is accepted have found. -/
theorem State.judgeClose_accepted (h : s.judgeClose i true = .accepted) : (s.sec i).ctl.state = .dead ∧
    s.mode ≠ .observe ∧ s.station.state = .closed ∧ (s.sec i).sel.state ≠ .blind ∧ s.belowHalf i = true := by
  rw [State.judgeClose] at h
  split at h
  · exact absurd h nofun
  split at h
  · exact absurd h nofun
  split at h
  · exact absurd h nofun
  rename_i dead
  split at h
  · exact absurd h nofun
  rename_i interlock
  split at h
  · exact absurd h nofun
  rename_i mode
  simp only [not_or, not_not, Bool.not_eq_false] at interlock
  obtain ⟨closed, seen, half⟩ := interlock
  exact ⟨not_not.mp dead, by simpa using mode, closed, seen, half⟩

/-- R11: the close that is ordered. -/
theorem Ev.sectionClose_of_accepted (judged : e.s.judgeClose i true = .accepted) (position : e.s.station.position = .closed) :
    e.sectionClose i = (e.mod fun s => ((s.queueOrder (.sec i) .close).setPending i
      (some (s.order .close .command none false))).setSec i .closing .commandedClose, .accepted) := by
  obtain ⟨-, -, closed, seen, half⟩ := State.judgeClose_accepted judged
  have allowed : e.s.closeAllowed i = true := by simp [State.closeAllowed, closed, position, seen, half]
  rw [Ev.sectionClose, judged, if_pos rfl, if_pos allowed]

end

end Sys2Proof.Machine

section

open Sys2Proof Sys2Proof.Machine

/-- Settles O32: the checks are those of the statement, and the section that begins to close is not BLIND. -/
theorem sectionCloseIsOrdered : Obligations.SectionCloseIsOrdered := by
  intro r n i s res working told may named hres
  have arm : exec (.sectionClose r n) s = s.event fun e => e.command r 0x01 (Ev.onSection n Ev.sectionClose) := rfl
  have judged : (Ev.between s s.countCommand).s.judgeClose i true = res := by
    rw [hres]
    exact State.judgeClose_eq s i
  refine ⟨fun refused => ?_, fun accepted position => ?_⟩
  · refine arm.trans (State.command_refused working told may ?_)
    rw [Ev.onSection_of_some named, Ev.sectionClose, judged, if_neg refused]
  · subst accepted
    obtain ⟨dead, mode, closed, seen, half⟩ := State.judgeClose_accepted (s := s.countCommand) judged
    have dead' : (s.sec i).ctl.state = .dead := dead
    have queued := State.queueOrder_of_not_observe mode (.sec i) .close
    rw [arm]
    refine State.command_section (i := i) working told may ?_ ?_ ?_ (.inr (.inl ?_)) ?_ ?_ rfl rfl rfl rfl
    · rw [Ev.onSection_of_some named, Ev.sectionClose_of_accepted judged position, Ev.between_mod, queued, State.setSec,
        State.setPending, State.modCtl_modCtl]
      rfl
    · rw [State.sec_modCtl_self, dead']
      exact nofun
    · rw [dead']
      exact nofun
    · rw [State.sec_modCtl_self]
      exact seen
    · rw [State.sec_modCtl_self]
      exact nofun
    · exact State.sameSecsBut_modSec _ i _

end

/-! SUPPORT. The closure of an incident and the end of a sequence; trips that are confirmed, and trips that are not. -/

namespace Sys2Proof.Machine

open Sys2Proof

/-! ### Closing an incident -/

section
variable {s t : State} {e : Ev} {i : SecNo} {r : Incident} {o : IncOutcome}

/-- R93: what the closure counts down depends on the vehicle table alone. -/
theorem State.countDown_foldl (l : List Attributed) : ∀ {s t : State}, s.vehicles = t.vehicles →
    l.foldl (fun u a => u.countDown a.vehicle) s =
      { s with vehicles := (l.foldl (fun u a => u.countDown a.vehicle) t).vehicles } := by
  induction l with
  | nil => intro s t h; rw [List.foldl_nil, List.foldl_nil, ← h]
  | cons a l ih =>
    intro s t h
    have next : (s.countDown a.vehicle).vehicles = (t.countDown a.vehicle).vehicles := by
      rw [State.countDown, State.modVehicle, State.modVehicles, h]
      rfl
    rw [List.foldl_cons, List.foldl_cons, ih next]
    rfl

theorem State.uncounted_congr (h : t.vehicles = s.vehicles) (r : Incident) : t.uncounted r = s.uncounted r := by
  rw [State.uncounted, State.countDown_foldl r.vehicles h]

/-- R93: the list with a record closed. -/
theorem State.modRecord_close (s : State) (n : Nat) (o : IncOutcome) :
    s.modRecord n (fun r => r.close o s.stamp) = { s with incidents := s.closedList n o } := by
  have same : (fun r : Incident => if r.number == n then r.close o s.stamp else r) = fun x =>
      if x.number = n then { x with state := .closed, outcome := some o, closed := some s.stamp, window := none } else x := by
    funext r
    by_cases h : r.number = n <;> simp [h, Incident.close]
  rw [State.modRecord, same]

/-- R93: a record closed, and the vehicles it lists counted down. -/
def State.closed (s : State) (r : Incident) (o : IncOutcome) : State :=
  { s with incidents := s.closedList r.number o, vehicles := s.uncounted r }

/-- R84: a record added. -/
def State.adding (s : State) (r : Incident) : State := { s with incidents := s.incidents.add r }

theorem Ev.addIncident_adding (e : Ev) (r : Incident) : (e.addIncident r).s = e.s.adding r := Ev.addIncident_s e r

/-- R93: the current incident of a section closes. -/
theorem Ev.closeIncident_s (h : e.s.liveIncident i = some r) : (e.closeIncident i o).s = e.s.closed r o := by
  have folded (l : List Attributed) (e : Ev) : (l.foldl (fun e a => e.mod fun s => s.countDown a.vehicle) e).s =
      l.foldl (fun s a => s.countDown a.vehicle) e.s := by
    induction l generalizing e with
    | nil => rfl
    | cons a l ih => exact ih _
  rw [Ev.closeIncident, h]
  dsimp only
  rw [Ev.reportIncident_s, folded, Ev.mod_s, State.modRecord_close, State.countDown_foldl (t := e.s)]
  · rfl
  · rfl

theorem Ev.closeIncident_old (e : Ev) (i : SecNo) (o : IncOutcome) : (e.closeIncident i o).old = e.old := by
  have folded (l : List Attributed) (e : Ev) : (l.foldl (fun e a => e.mod fun s => s.countDown a.vehicle) e).old = e.old := by
    induction l generalizing e with
    | nil => rfl
    | cons a l ih => exact ih _
  rw [Ev.closeIncident]
  split
  · rfl
  · rw [Ev.reportIncident_old, folded]
    rfl

/-- R8: the current incident is named by the section's record and found in the list. -/
theorem State.liveIncident_congr (hc : (t.sec i).ctl.incident = (s.sec i).ctl.incident) (hl : t.incidents = s.incidents) :
    t.liveIncident i = s.liveIncident i := by
  rw [State.liveIncident, State.liveIncident, State.incidentOf, State.incidentOf, hc]
  simp only [State.record?, hl]

/-! ### The end of a sequence -/

/-- R79: what a cancelled sequence makes of a section's control record: the current incident goes with it, except where
the section is locked out. -/
def SectionCtl.cancelled (c : SectionCtl) (q : Reclose) : SectionCtl :=
  if q.phase = .idle ∨ c.state = .lockedOut then c else { c with incident := none }

/-- R79: and of its sequence record. -/
def Reclose.cancelled (q : Reclose) (c : SectionCtl) : Reclose :=
  if q.phase = .idle then q else if c.state = .lockedOut then q.ended else { q.ended with shots := 0 }

theorem SectionCtl.cancelled_of_lockedOut {c : SectionCtl} {q : Reclose} (h : c.state = .lockedOut) : c.cancelled q = c :=
  if_pos (.inr h)

theorem Reclose.cancelled_phase (q : Reclose) (c : SectionCtl) : (q.cancelled c).phase = .idle := by
  unfold Reclose.cancelled
  split
  · assumption
  · split <;> rfl

theorem Reclose.cancelled_shots {q : Reclose} {c : SectionCtl} (h : c.state = .lockedOut) : (q.cancelled c).shots = q.shots := by
  unfold Reclose.cancelled
  rw [if_pos h]
  split <;> rfl

theorem State.modSec_same {f : Sec → Sec} (h : f (s.sec i) = s.sec i) : s.modSec i f = s := by
  have h' : f s.secs[i] = s.secs[i] := h
  rw [State.modSec, h']
  simp

theorem State.modSec_congr {f g : Sec → Sec} (h : f (s.sec i) = g (s.sec i)) : s.modSec i f = s.modSec i g := by
  have h' : f s.secs[i] = g s.secs[i] := h
  rw [State.modSec, State.modSec, h']

theorem State.modSec_modSec (s : State) (i : SecNo) (f g : Sec → Sec) :
    (s.modSec i f).modSec i g = s.modSec i fun x => g (f x) := by
  simp [State.modSec]

/-- R79: what a cancelled sequence makes of a section's records. -/
def State.cancelled (s : State) (i : SecNo) : State :=
  s.modSec i fun x => { x with ctl := x.ctl.cancelled x.rcl, rcl := x.rcl.cancelled x.ctl }

/-- R79: a sequence is cancelled. -/
theorem Ev.cancelSequence_eq (e : Ev) (i : SecNo) : e.cancelSequence i = e.mod fun s => s.cancelled i := by
  unfold Ev.cancelSequence
  by_cases idle : (e.s.sec i).rcl.phase = .idle
  · have same : e.s.cancelled i = e.s :=
      State.modSec_same (by simp [SectionCtl.cancelled, Reclose.cancelled, idle])
    rw [if_pos idle, Ev.mod, same]
  · rw [if_neg idle]
    have atEnd : (e.s.modRcl i Reclose.ended).sec i = { e.s.sec i with rcl := (e.s.sec i).rcl.ended } := State.sec_modRcl_self _ _ _
    refine congrArg (fun s => { e with s := s }) ?_
    dsimp only
    rw [atEnd]
    by_cases locked : (e.s.sec i).ctl.state = .lockedOut
    · rw [if_pos locked]
      refine State.modSec_congr ?_
      simp [SectionCtl.cancelled, Reclose.cancelled, idle, locked]
    · rw [if_neg locked, State.modRcl, State.modRcl, State.modCtl, State.modSec_modSec, State.modSec_modSec]
      refine State.modSec_congr ?_
      simp [SectionCtl.cancelled, Reclose.cancelled, idle, locked]

section
variable {c : SectionCtl} {q : Reclose} (h : s.Moves t i c q)

include h

theorem State.Moves.cancelled : s.Moves (t.cancelled i) i (c.cancelled q) (q.cancelled c) where
  ctl := by rw [State.cancelled, State.sec_modSec_self, h.ctl, h.rcl]
  rcl := by rw [State.cancelled, State.sec_modSec_self, h.ctl, h.rcl]
  sel := by rw [State.cancelled, State.sec_modSec_self, h.sel]
  others := h.others.trans (t.sameSecsBut_modSec i _)

theorem State.Moves.closed (r : Incident) (o : IncOutcome) : s.Moves (t.closed r o) i c q := h.of_secs rfl

theorem State.Moves.adding (r : Incident) : s.Moves (t.adding r) i c q := h.of_secs rfl

end

end

end Sys2Proof.Machine

/-! SUPPORT. Breaker failures with their backup trip. -/

namespace Sys2Proof.Machine

open Sys2Proof

section
variable {s t : State} {e : Ev} {i : SecNo} {r : Incident}

/-- R16, R18: a section's record as a lockout for breaker failure makes it. -/
def State.failedOut (s : State) (i : SecNo) : State :=
  ((s.setSec i .lockedOut .breakerFailure).setPending i none).modCtl i fun c => { c with former := none }

theorem State.Moves.failedOut {c : SectionCtl} {q : Reclose} (h : s.Moves t i c q) : s.Moves (t.failedOut i) i
    { c with state := .lockedOut, reason := .breakerFailure, pending := none, former := none } q :=
  ((h.setSec .lockedOut .breakerFailure).setPending none).modCtl fun c => { c with former := none }

/-- R16, R18: the state after a lockout for breaker failure, the current incident being OPEN or HELD. -/
def State.brokenDown (s : State) (i : SecNo) (r : Incident) (k : FailCause) : State :=
  (((s.failedOut i).closed r .lockedOut).cancelled i).adding
    (s.closedRecord .breakerFailure (.sec i) (some (.cause k)) none)

/-- R16, R18: a section locks out for breaker failure. -/
theorem Ev.breakerLockout_s {k : FailCause} (h : e.s.liveIncident i = some r) :
    (e.breakerLockout i k).s = e.s.brokenDown i r k := by
  have incident : ((e.s.failedOut i).sec i).ctl.incident = (e.s.sec i).ctl.incident := by
    rw [((State.Moves.start e.s i).failedOut).ctl]
  have current : (e.mod fun s => s.failedOut i).s.liveIncident i = some r :=
    (State.liveIncident_congr incident rfl).trans h
  have locks : e.breakerLockout i k = ((((e.mod fun s => s.failedOut i).closeIncident i .lockedOut).cancelSequence i)).recordClosed
    .breakerFailure (.sec i) (some (.cause k)) none := rfl
  rw [locks, Ev.recordClosed, Ev.addIncident_adding, Ev.cancelSequence_eq, Ev.mod_s, Ev.closeIncident_s current]
  rfl

/-- R18: the section is out, its sequence over; its shot count and its incident number stand. -/
theorem State.brokenDown_moves (s : State) (i : SecNo) (r : Incident) (k : FailCause) : s.Moves (s.brokenDown i r k) i
    { (s.sec i).ctl with state := .lockedOut, reason := .breakerFailure, pending := none, former := none }
    ((s.sec i).rcl.cancelled { (s.sec i).ctl with
      state := .lockedOut, reason := .breakerFailure, pending := none, former := none }) := by
  have moves := ((State.Moves.start s i).failedOut.closed r .lockedOut).cancelled.adding
    (s.closedRecord .breakerFailure (.sec i) (some (.cause k)) none)
  rwa [SectionCtl.cancelled_of_lockedOut rfl] at moves

section
variable (s : State) (i : SecNo) (r : Incident) (k : FailCause)

theorem State.failedOut_background : (s.failedOut i).background = s.background := rfl
theorem State.closed_background (o : IncOutcome) : (s.closed r o).background = s.background := rfl
theorem State.cancelled_background : (s.cancelled i).background = s.background := rfl
theorem State.adding_background : (s.adding r).background = s.background := rfl

theorem State.brokenDown_background : (s.brokenDown i r k).background = s.background :=
  (State.adding_background _ _).trans ((State.cancelled_background _ i).trans ((State.closed_background _ r _).trans
    (s.failedOut_background i)))

theorem State.failedOut_closedList (n : Nat) (o : IncOutcome) : (s.failedOut i).closedList n o = s.closedList n o := rfl

theorem State.brokenDown_incidents : (s.brokenDown i r k).incidents = (s.closedList r.number .lockedOut).add
    (s.closedRecord .breakerFailure (.sec i) (some (.cause k)) none) :=
  congrArg (fun l : IncidentList => l.add (s.closedRecord .breakerFailure (.sec i) (some (.cause k)) none))
    (s.failedOut_closedList i r.number .lockedOut)

theorem State.brokenDown_vehicles : (s.brokenDown i r k).vehicles = s.uncounted r :=
  State.uncounted_congr (s := s) (t := s.failedOut i) rfl r

theorem State.brokenDown_station : (s.brokenDown i r k).station = s.station := rfl
theorem State.brokenDown_mode : (s.brokenDown i r k).mode = s.mode := rfl
theorem State.brokenDown_fieldPort : (s.brokenDown i r k).fieldPort = s.fieldPort := rfl
theorem State.brokenDown_partTime : (s.brokenDown i r k).partTime = s.partTime := rfl
theorem State.brokenDown_tables : (s.brokenDown i r k).tables = s.tables :=
  congrArg (fun b => b.2.2.2.1) (s.brokenDown_background i r k)

end

theorem Ev.breakerLockout_old (e : Ev) (i : SecNo) (k : FailCause) : (e.breakerLockout i k).old = e.old := by
  have locks : e.breakerLockout i k = ((((e.mod fun s => s.failedOut i).closeIncident i .lockedOut).cancelSequence i)).recordClosed
    .breakerFailure (.sec i) (some (.cause k)) none := rfl
  rw [locks, Ev.recordClosed, Ev.addIncident_old, Ev.cancelSequence_eq, Ev.mod_old, Ev.closeIncident_old, Ev.mod_old]

/-- R21: the station as a backup trip makes it. -/
def State.backedUp (s : State) : State :=
  { s with
    fieldPort := { s.fieldPort with
      urgent := pushUrgent s.fieldPort.urgent ⟨.station, .trip, s.telegram s.tables.station.breaker kBreakerTrip []⟩ }
    station := { s.station with
      state := .tripping, reason := .backupTrip, tripLine := true,
      pending := some ⟨.trip, .backup, none, true, ⟨s.partTime, 200⟩⟩ } }

theorem State.backedUp_background (s : State) : s.backedUp.background = s.background := rfl

theorem State.Moves.backedUp {c : SectionCtl} {q : Reclose} (h : s.Moves t i c q) : s.Moves t.backedUp i c q := h.of_secs rfl

/-- R21: the backup trip of a station that stands closed, no section waiting for its gates. -/
theorem Ev.requestBackup_of_closed (closed : e.s.station.state = .closed) (position : e.s.station.position = .closed)
    (active : e.s.tables.station.active = true) (mode : e.s.mode ≠ .observe) (quiet : ∀ j, (e.s.sec j).rcl.phase ≠ .gating) :
    e.requestBackup = e.mod State.backedUp := by
  have asked : ¬ (e.s.station.position = .opened ∨ e.s.station.state = .failed ∨ e.s.station.backupRunning = true) := by
    rw [Station.backupRunning, position, closed]
    simp
  rw [Ev.requestBackup]
  dsimp only
  rw [if_neg asked]
  refine Ev.withStation_eq (congrArg (fun s => { e with s := s }) ?_) rfl quiet
  dsimp only
  rw [if_pos active, State.queueOrder_of_not_observe mode, State.assertStationLine_of_not_observe (by exact mode)]
  rfl

/-- R18: a breaker failure of a section that is not LIVE. -/
theorem Ev.breakerFailure_of_dark {k : FailCause} (dark : (e.s.sec i).ctl.state ≠ .live) (current : e.s.liveIncident i = some r) :
    e.breakerFailure i k = if e.s.mode = .observe then e.breakerLockout i k else (e.breakerLockout i k).requestBackup := by
  have mode : (e.breakerLockout i k).s.mode = e.s.mode := by rw [Ev.breakerLockout_s current, State.brokenDown_mode]
  rw [← mode, Ev.breakerFailure, if_neg dark]

end

end Sys2Proof.Machine

section

open Sys2Proof Sys2Proof.Machine

/-- Settles O35: the lockout closes the incident and ends the sequence before the backup trip is asked for. -/
theorem tripExpiryIsABreakerFailure : Obligations.TripExpiryIsABreakerFailure := by
  intro i o r s up tripping pending due mode closed position active current quiet
  have locked : ((Ev.start s).breakerLockout i .tripExpiry).s = s.brokenDown i r .tripExpiry :=
    Ev.breakerLockout_s (e := Ev.start s) current
  have moves := s.brokenDown_moves i r .tripExpiry
  have still : ∀ j, ((s.brokenDown i r .tripExpiry).sec j).rcl.phase ≠ .gating := by
    intro j
    by_cases hj : j = i
    · subst hj
      rw [moves.rcl, Reclose.cancelled_phase]
      exact nofun
    · rw [moves.others j hj]
      exact quiet j
  have station : ((Ev.start s).breakerLockout i .tripExpiry).s.station = s.station := by
    rw [locked, State.brokenDown_station]
  have tables : ((Ev.start s).breakerLockout i .tripExpiry).s.tables = s.tables := by rw [locked, State.brokenDown_tables]
  have lockedMode : ((Ev.start s).breakerLockout i .tripExpiry).s.mode = s.mode := by rw [locked, State.brokenDown_mode]
  have failed : (Ev.start s).sectionTripExpiry i = ((Ev.start s).breakerLockout i .tripExpiry).mod State.backedUp := by
    have fails : (Ev.start s).sectionTripExpiry i = (Ev.start s).breakerFailure i .tripExpiry :=
      if_pos (State.sectionDue_of pending due tripping)
    have dark : ((Ev.start s).s.sec i).ctl.state ≠ .live := by
      rw [Ev.start_s, tripping]
      exact nofun
    rw [fails, Ev.breakerFailure_of_dark dark current, if_neg (by exact mode)]
    refine Ev.requestBackup_of_closed ((congrArg Station.state station).trans closed)
      ((congrArg Station.position station).trans position)
      ((congrArg (fun b : Tables => b.station.active) tables).trans active) (fun k => mode (lockedMode.symm.trans k)) ?_
    rw [locked]
    exact still
  have stands : (((Ev.start s).breakerLockout i .tripExpiry).mod State.backedUp).s =
      (s.brokenDown i r .tripExpiry).backedUp := by rw [Ev.mod_s, locked]
  obtain ⟨u, done, atEnd⟩ := State.event_ends (f := fun e => e.sectionTripExpiry i) up failed
    (by rw [Ev.mod_old, Ev.breakerLockout_old]; rfl) (stands ▸ moves.backedUp.settled (s.brokenDown_mode i r .tripExpiry) (.inr rfl))
  rw [stands] at atEnd
  have moved := moves.backedUp.ends atEnd
  refine ⟨u, done, moved.ctl, ?_, ?_, atEnd.incidents.trans (s.brokenDown_incidents i r .tripExpiry),
    atEnd.vehicles.trans (s.brokenDown_vehicles i r .tripExpiry), ?_, ?_, moved.others,
    atEnd.background.trans ((State.backedUp_background _).trans (s.brokenDown_background i r .tripExpiry))⟩
  · rw [moved.rcl, Reclose.cancelled_phase]
  · rw [moved.rcl, Reclose.cancelled_shots rfl]
  · rw [atEnd.station, State.backedUp, State.brokenDown_station, State.brokenDown_partTime]
  · rw [atEnd.urgent, State.backedUp, State.telegram, State.settings, State.brokenDown_fieldPort, State.brokenDown_tables]
    rfl

end

/-! SUPPORT. The start of a dead time, and trips that a report confirms. -/

namespace Sys2Proof.Machine

open Sys2Proof

section
variable {s t : State} {e : Ev} {i : SecNo} {r : Incident} {c : SectionCtl} {q : Reclose}

/-! ### Asking for POLES_DOWN orders -/

/-- R112: what a POLES_DOWN order writes. -/
def Part.OfAsking : Part → Prop
  | .normal .field | .vehicles => True
  | _ => False

theorem State.askPolesDown_edits (s : State) (i : SecNo) : s.Edits Part.OfAsking (s.askPolesDown i) :=
  .askPolesDown trivial trivial .refl i

section
variable (s : State) (i : SecNo)

theorem State.askPolesDown_secs : (s.askPolesDown i).secs = s.secs :=
  Vector.ext fun j hj => (s.askPolesDown_edits i).sec (i := ⟨j, hj⟩) id id

theorem State.askPolesDown_station : (s.askPolesDown i).station = s.station := (s.askPolesDown_edits i).station id id
theorem State.askPolesDown_incidents : (s.askPolesDown i).incidents = s.incidents := (s.askPolesDown_edits i).incidents id id
theorem State.askPolesDown_modeRec : (s.askPolesDown i).modeRec = s.modeRec := (s.askPolesDown_edits i).modeRec id id id
theorem State.askPolesDown_background : (s.askPolesDown i).background = s.background :=
  (s.askPolesDown_edits i).background id id id id id

end

theorem State.Moves.askPolesDown (h : s.Moves t i c q) : s.Moves (t.askPolesDown i) i c q := h.of_secs (t.askPolesDown_secs i)

/-! ### The start of a dead time -/

/-- R68: the section waits for a shot, its dead time running. -/
def State.waits (s : State) (i : SecNo) (next : Nat) : State :=
  (s.setSec i .waiting .shot).modRcl i fun r =>
    { r with phase := .gating, nextShot := some next,
             dead := some ⟨s.partTime, (match s.shotOf i next with | none => 0 | some x => x.dead * 100)⟩ }

/-- R68: the gates are recorded as they stand. -/
def State.gated (s : State) (i : SecNo) : State := s.modRcl i fun r => { r with gates := s.gatesNow i }

theorem State.Moves.waits (h : s.Moves t i c q) (next : Nat) : s.Moves (t.waits i next) i
    { c with state := .waiting, reason := .shot }
    { q with phase := .gating, nextShot := some next, dead := some ⟨t.partTime, (match t.shotOf i next with
      | none => 0
      | some x => x.dead * 100)⟩ } := (h.setSec .waiting .shot).modRcl _

theorem State.Moves.gated (h : s.Moves t i c q) : s.Moves (t.gated i) i c { q with gates := t.gatesNow i } := h.modRcl _

/-- R68: a dead time starts, and POLES_DOWN orders are asked for. -/
def State.begins (s : State) (i : SecNo) (next : Nat) : State := ((s.waits i next).gated i).askPolesDown i

theorem State.begins_station (s : State) (i : SecNo) (n : Nat) : (s.begins i n).station = s.station :=
  State.askPolesDown_station _ i

theorem State.begins_incidents (s : State) (i : SecNo) (n : Nat) : (s.begins i n).incidents = s.incidents :=
  State.askPolesDown_incidents _ i

theorem State.begins_modeRec (s : State) (i : SecNo) (n : Nat) : (s.begins i n).modeRec = s.modeRec :=
  State.askPolesDown_modeRec _ i

theorem State.begins_background (s : State) (i : SecNo) (n : Nat) : (s.begins i n).background = s.background :=
  State.askPolesDown_background _ i

theorem State.Moves.begins (h : s.Moves t i c q) (n : Nat) : s.Moves (t.begins i n) i
    { c with state := .waiting, reason := .shot }
    { q with
      phase := .gating, nextShot := some n, gates := (t.waits i n).gatesNow i,
      dead := some ⟨t.partTime, (match t.shotOf i n with | none => 0 | some x => x.dead * 100)⟩ } :=
  (h.waits n).gated.askPolesDown

/-- R68, R71: a dead time starts where the hold does not fail. -/
theorem Ev.startDeadTime_eq {next : Nat} (h : ((e.s.waits i next).gated i).holdFails i = false) :
    e.startDeadTime i next = e.mod fun s => s.begins i next := by
  have starts : e.startDeadTime i next = if ((e.s.waits i next).gated i).holdFails i = true
      then (e.mod fun s => (s.waits i next).gated i).lockout i .vehicleHoldExpired
      else e.mod fun s => s.begins i next := rfl
  rw [starts, h]
  rfl

/-- R68: the gates of a section with a current incident. -/
theorem State.gatesNow_of_incident (h : s.incidentOf i = some r) : s.gatesNow i =
    ⟨(s.sec i).rcl.dead.isNone, r.state != .opened, r.vehicles.all fun a => s.polesDownOrGone a.vehicle, s.belowHalf i,
      (s.sec i).sel.state != .blind, s.station.state == .closed⟩ := by
  simp [State.gatesNow, State.gateHolds, h]

theorem State.incidentOf_congr (hc : (t.sec i).ctl.incident = (s.sec i).ctl.incident) (hl : t.incidents = s.incidents) :
    t.incidentOf i = s.incidentOf i := by
  rw [State.incidentOf, State.incidentOf, hc]
  simp only [State.record?, hl]

theorem State.Moves.incidentOf (h : s.Moves t i c q) (hc : c.incident = (s.sec i).ctl.incident)
    (hl : t.incidents = s.incidents) : t.incidentOf i = s.incidentOf i :=
  State.incidentOf_congr (s := s) (t := t) (by rw [h.ctl, hc]) hl

theorem State.Moves.liveIncident (h : s.Moves t i c q) (hc : c.incident = (s.sec i).ctl.incident)
    (hl : t.incidents = s.incidents) : t.liveIncident i = s.liveIncident i :=
  State.liveIncident_congr (s := s) (t := t) (by rw [h.ctl, hc]) hl

/-- R8: the current incident while it is OPEN or HELD is the section's own record. -/
theorem State.incidentOf_of_live (h : s.liveIncident i = some r) : s.incidentOf i = some r :=
  (Option.filter_eq_some_iff.mp h).1

/-- R68: the gates as a dead time finds them. -/
theorem State.gatesNow_waits (next : Nat) (h : s.incidentOf i = some r) : (s.waits i next).gatesNow i =
    ⟨false, r.state != .opened, r.vehicles.all fun a => s.polesDownOrGone a.vehicle, s.belowHalf i,
      (s.sec i).sel.state != .blind, s.station.state == .closed⟩ := by
  have moves := (State.Moves.start s i).waits next
  have current : (s.waits i next).incidentOf i = some r := (moves.incidentOf rfl rfl).trans h
  have thermal : (s.waits i next).belowHalf i = s.belowHalf i := by
    have feed : ((s.waits i next).sec i).feed = (s.sec i).feed := by
      simp only [State.waits, State.setSec, State.sec_modRcl_self, State.sec_modCtl_self]
    rw [State.belowHalf, State.belowHalf, feed]
    rfl
  rw [State.gatesNow_of_incident current, thermal, moves.rcl, moves.sel]
  rfl

/-! ### The confirmation of a trip -/

/-- R9: a trip from protection is confirmed: its line and its order go. -/
def State.tripEnded (s : State) (i : SecNo) : State := (s.releaseLine i).setPending i none

theorem State.Moves.tripEnded (h : s.Moves t i c q) :
    s.Moves (t.tripEnded i) i { c with tripLine := false, pending := none } q := h.releaseLine.setPending none

theorem Ev.confirmTrip_of_protection {o : PendingOrder} (h : (e.s.sec i).ctl.pending = some o) (ho : o.origin = .protection) :
    e.confirmTrip i = (e.mod fun s => s.tripEnded i).trippedOpen i o.kind := by
  have confirms : e.confirmTrip i = if (e.s.sec i).ctl.pending.any (fun p => p.origin == .lock) = true then _
      else (e.mod fun s => s.tripEnded i).trippedOpen i ((e.s.sec i).ctl.pending.bind PendingOrder.kind) := rfl
  rw [confirms, h, if_neg (by simp [ho])]
  rfl

/-- R68: the hold of a sequence. -/
def State.holds (s : State) (i : SecNo) (base : PartTime) : State :=
  s.modRcl i fun r =>
    { r with holdBase := some base, hold := some ⟨base, s.settings.holdLimit * 1000⟩, holdOverdue := false }

theorem State.Moves.holds (h : s.Moves t i c q) (base : PartTime) : s.Moves (t.holds i base) i c
    { q with holdBase := some base, hold := some ⟨base, t.settings.holdLimit * 1000⟩, holdOverdue := false } := h.modRcl _

theorem State.limitReached_modRcl (f : Reclose → Reclose) (h : ∀ q, (f q).shots = q.shots) :
    (s.modRcl i f).limitReached i = s.limitReached i := by
  rw [State.limitReached, State.limitReached, State.sec_modRcl_self, h]
  rfl

/-- R67: the kind of the trip. -/
def State.ofKind (s : State) (i : SecNo) (k : Option TripKind) : State := s.modRcl i fun r => { r with tripKind := k }

theorem State.Moves.ofKind (h : s.Moves t i c q) (k : Option TripKind) :
    s.Moves (t.ofKind i k) i c { q with tripKind := k } := h.modRcl _

/-- R68: the time of the last trip of the current incident. -/
def State.baseOf (s : State) (i : SecNo) : PartTime :=
  match s.incidentOf i with
  | none => s.partTime
  | some r => match r.lastTrip with
    | none => s.partTime
    | some t => t.2

/-- R68: a confirmed trip with a shot left. -/
theorem Ev.tripConfirmed_of_left {k : Option TripKind} {base : TripKind × PartTime} (kind : k ≠ some .blind)
    (mode : e.s.mode ≠ .observe) (program : (e.s.secEntry i).program ≠ none) (left : e.s.limitReached i = false)
    (current : e.s.incidentOf i = some r) (last : r.lastTrip = some base) :
    e.tripConfirmed i k = (e.mod fun s => (s.ofKind i k).holds i base.2).startDeadTime i ((e.s.sec i).rcl.shots + 1) := by
  let d := e.mod fun s => s.ofKind i k
  have moves : e.s.Moves d.s i (e.s.sec i).ctl { (e.s.sec i).rcl with tripKind := k } :=
    (State.Moves.start e.s i).ofKind k
  have placed : d.s.incidentOf i = some r := (moves.incidentOf rfl rfl).trans current
  have limit : d.s.limitReached i = false :=
    (State.limitReached_modRcl (fun r => { r with tripKind := k }) fun _ => rfl).trans left
  have shots : (d.s.sec i).rcl.shots = (e.s.sec i).rcl.shots := by rw [moves.rcl]
  have starts : e.tripConfirmed i k = if k = some .blind then d.lockout i .blindTrip
      else if d.s.mode = .observe ∨ (d.s.secEntry i).program = none then d.lockout i .noProgram
      else if d.s.limitReached i then d.lockout i .shotsExhausted
      else (d.mod fun s => s.holds i (d.s.baseOf i)).startDeadTime i ((d.s.sec i).rcl.shots + 1) := rfl
  have since : d.s.baseOf i = base.2 := by
    rw [State.baseOf, placed]
    dsimp only
    rw [last]
  rw [starts, if_neg kind, if_neg (by exact fun h => h.elim mode program), limit, if_neg nofun, since, shots]
  rfl

/-- R66: a shot left in the program of an active section, in ACTIVE. -/
theorem State.limitReached_of_shot {k : Fin 4} {x : Shot} (mode : s.mode = .active)
    (program : (s.secEntry i).program = some k)
    (left : s.tables.programs[k].shots[(s.sec i).rcl.shots]? = some x) : s.limitReached i = false := by
  have below := (List.getElem?_eq_some_iff.mp left).1
  have limit : s.shotLimit i = some s.tables.programs[k].shots.length := by
    rw [State.shotLimit, State.programOf, program, mode]
    rfl
  rw [State.limitReached, limit]
  exact decide_eq_false (Nat.not_le.mpr below)

theorem State.shotOf_of_shot {k : Fin 4} {x : Shot} {n : Nat} (program : (s.secEntry i).program = some k)
    (left : s.tables.programs[k].shots[n]? = some x) : s.shotOf i (n + 1) = some x := by
  rw [State.shotOf, State.programOf, program]
  exact left

/-- R9: a trip that is confirmed while the station is not closed. -/
def State.deadened (s : State) (i : SecNo) (r : Incident) : State :=
  ((s.setSec i .dead .stationOpen).closed r .stationOpen).cancelled i

theorem Ev.trippedOpen_of_away {k : Option TripKind} (away : e.s.station.position ≠ .closed)
    (current : e.s.liveIncident i = some r) :
    (e.trippedOpen i k).s = e.s.deadened i r ∧ (e.trippedOpen i k).old = e.old := by
  have moves := (State.Moves.start e.s i).setSec .dead .stationOpen
  have live : (e.mod fun s => s.setSec i .dead .stationOpen).s.liveIncident i = some r :=
    (moves.liveIncident rfl rfl).trans current
  rw [Ev.trippedOpen, if_neg away, Ev.cancelSequence_eq, Ev.mod_s, Ev.closeIncident_s live, Ev.mod_old,
    Ev.closeIncident_old]
  exact ⟨rfl, rfl⟩

/-- R79: a section that is not locked out loses its current incident with its sequence. -/
theorem SectionCtl.cancelled_of_not_lockedOut (h : c.state ≠ .lockedOut) :
    c.cancelled q = { c with incident := if q.phase = .idle then c.incident else none } := by
  unfold SectionCtl.cancelled
  split
  · rw [if_pos (by tauto)]
  · rw [if_neg (by tauto)]

/-- R79: and its shot count. -/
theorem Reclose.cancelled_shots_of_not_lockedOut (h : c.state ≠ .lockedOut) :
    (q.cancelled c).shots = if q.phase = .idle then q.shots else 0 := by
  unfold Reclose.cancelled
  rw [if_neg h]
  split <;> rfl

theorem State.deadened_vehicles (s : State) (i : SecNo) (r : Incident) : (s.deadened i r).vehicles = s.uncounted r :=
  State.uncounted_congr (s := s) (t := s.setSec i .dead .stationOpen) rfl r

theorem State.deadened_incidents (s : State) (i : SecNo) (r : Incident) :
    (s.deadened i r).incidents = s.closedList r.number .stationOpen := rfl

theorem State.deadened_station (s : State) (i : SecNo) (r : Incident) : (s.deadened i r).station = s.station := rfl
theorem State.deadened_mode (s : State) (i : SecNo) (r : Incident) : (s.deadened i r).mode = s.mode := rfl

theorem State.deadened_background (s : State) (i : SecNo) (r : Incident) : (s.deadened i r).background = s.background :=
  State.closed_background (s.setSec i .dead .stationOpen) r .stationOpen

/-- R9: the report that confirms the trip changes the section's control record alone. -/
theorem State.tripEnded_uncounted (s : State) (i : SecNo) (r : Incident) :
    ((s.setPosition i .opened).tripEnded i).uncounted r = s.uncounted r :=
  State.uncounted_congr (s := s) (t := (s.setPosition i .opened).tripEnded i) rfl r

theorem State.Moves.deadened (h : s.Moves t i c q) : s.Moves (t.deadened i r) i
    { c with
      state := .dead, reason := .stationOpen, incident := if q.phase = .idle then c.incident else none }
    (q.cancelled { c with state := .dead, reason := .stationOpen }) := by
  have moves := ((h.setSec .dead .stationOpen).closed r .stationOpen).cancelled
  rw [SectionCtl.cancelled_of_not_lockedOut (by exact nofun)] at moves
  exact moves

theorem State.Moves.trans {u : State} {c' : SectionCtl} {q' : Reclose} (h : s.Moves t i c q) (k : t.Moves u i c' q') :
    s.Moves u i c' q' := ⟨k.ctl, k.rcl, k.sel.trans h.sel, h.others.trans k.others⟩

/-- R35: the control record of a section has no part in its thermal value. -/
theorem State.belowHalf_tripEnded (s : State) (i : SecNo) (p : Position) :
    ((s.setPosition i p).tripEnded i).belowHalf i = s.belowHalf i := by
  have thermal : (((s.setPosition i p).tripEnded i).sec i).feed.h = (s.sec i).feed.h := by
    simp only [State.tripEnded, State.releaseLine, State.setPending, State.setPosition, State.sec_modCtl_self,
      State.sec_modSec_self]
  rw [State.belowHalf, State.belowHalf, thermal]
  rfl

/-- R68: a confirmed trip with a shot left: the hold is set and the dead time of the next shot starts. -/
def State.goesOn (s : State) (i : SecNo) (k : Option TripKind) (base : PartTime) : State :=
  ((s.ofKind i k).holds i base).begins i ((s.sec i).rcl.shots + 1)

section
variable (s : State) (i : SecNo) (k : Option TripKind) (base : PartTime)

theorem State.goesOn_station : (s.goesOn i k base).station = s.station := State.begins_station _ i _
theorem State.goesOn_incidents : (s.goesOn i k base).incidents = s.incidents := State.begins_incidents _ i _
theorem State.goesOn_mode : (s.goesOn i k base).mode = s.mode := congrArg ModeRecord.mode (State.begins_modeRec _ i _)
theorem State.goesOn_background : (s.goesOn i k base).background = s.background := State.begins_background _ i _

end

/-- R68: what the section's records are then. -/
theorem State.goesOn_moves {k : Fin 4} {x : Shot} (kind : Option TripKind) (base : PartTime)
    (current : s.incidentOf i = some r) (program : (s.secEntry i).program = some k)
    (left : s.tables.programs[k].shots[(s.sec i).rcl.shots]? = some x) : s.Moves (s.goesOn i kind base) i
    { (s.sec i).ctl with state := .waiting, reason := .shot }
    { (s.sec i).rcl with
      phase := .gating, nextShot := some ((s.sec i).rcl.shots + 1), dead := some ⟨s.partTime, x.dead * 100⟩,
      tripKind := kind, holdBase := some base, hold := some ⟨base, s.settings.holdLimit * 1000⟩, holdOverdue := false,
      gates := ⟨false, r.state != .opened, r.vehicles.all fun a => s.polesDownOrGone a.vehicle, s.belowHalf i,
        (s.sec i).sel.state != .blind, s.station.state == .closed⟩ } := by
  have held := ((State.Moves.start s i).ofKind kind).holds base
  have found : ((s.ofKind i kind).holds i base).incidentOf i = some r := (held.incidentOf rfl rfl).trans current
  have moves := held.begins ((s.sec i).rcl.shots + 1)
  have thermal : ((s.ofKind i kind).holds i base).belowHalf i = s.belowHalf i := by
    have feed : (((s.ofKind i kind).holds i base).sec i).feed = (s.sec i).feed := by
      simp only [State.ofKind, State.holds, State.sec_modRcl_self]
    rw [State.belowHalf, State.belowHalf, feed]
    rfl
  have shot : ((s.ofKind i kind).holds i base).shotOf i ((s.sec i).rcl.shots + 1) = some x :=
    State.shotOf_of_shot (s := s) program left
  rw [State.gatesNow_waits _ found, shot, thermal, held.sel] at moves
  exact moves

/-- R9, R67, R68: a trip is confirmed with the station closed and a shot left. -/
theorem Ev.trippedOpen_of_left {k : Fin 4} {x : Shot} {kind : Option TripKind} {base : TripKind × PartTime}
    (here : e.s.station.position = .closed) (mode : e.s.mode = .active) (other : kind ≠ some .blind)
    (program : (e.s.secEntry i).program = some k)
    (left : e.s.tables.programs[k].shots[(e.s.sec i).rcl.shots]? = some x) (current : e.s.incidentOf i = some r)
    (last : r.lastTrip = some base) : e.trippedOpen i kind = e.mod fun s => s.goesOn i kind base.2 := by
  have held := ((State.Moves.start e.s i).ofKind kind).holds base.2
  have fails : (((((e.s.ofKind i kind).holds i base.2).waits i ((e.s.sec i).rcl.shots + 1))).gated i).holdFails i = false := by
    rw [State.holdFails, (held.waits _).gated.rcl]
    rfl
  have going : e.trippedOpen i kind = e.tripConfirmed i kind := if_pos here
  rw [going, Ev.tripConfirmed_of_left other (fun k => nomatch mode.symm.trans k) (fun k => nomatch program.symm.trans k)
    (State.limitReached_of_shot mode program left) current last]
  exact Ev.startDeadTime_eq (e := e.mod fun s => (s.ofKind i kind).holds i base.2) fails

end

end Sys2Proof.Machine

section

open Sys2Proof Sys2Proof.Machine

/-- Settles O31: the report ends the trip, and the station position says what follows. -/
theorem tripConfirmedByAReport : Obligations.TripConfirmedByAReport := by
  intro i o r s working active tripping pending origin current
  have confirmed : (Ev.between s (s.setPosition i .opened)).judgeReport i (s.sec i).ctl.state .opened =
      (Ev.between s ((s.setPosition i .opened).tripEnded i)).trippedOpen i o.kind := by
    rw [tripping, Ev.judgeReport]
    exact Ev.confirmTrip_of_protection (by rw [Ev.between_s, State.setPosition_ctl]; exact pending) origin
  have ended := ((State.Moves.start s i).setPosition .opened).tripEnded
  have position : Report.opened.position (s.sec i).ctl.state = some .opened := rfl
  have live : ((s.setPosition i .opened).tripEnded i).liveIncident i = some r :=
    (ended.liveIncident rfl rfl).trans current
  refine ⟨fun away => ?_, fun k x t here mode kind program left last => ?_⟩
  · have dead := Ev.trippedOpen_of_away (e := Ev.between s ((s.setPosition i .opened).tripEnded i)) (k := o.kind) away live
    have moves := ended.deadened (r := r)
    obtain ⟨u, done, atEnd⟩ := State.report_ends (b := 0) working active rfl position confirmed dead.2
      (dead.1 ▸ moves.settled (State.deadened_mode _ i r) (.inr rfl))
    rw [dead.1] at atEnd
    have moved := moves.ends atEnd
    refine ⟨u, done, moved.ctl, ?_, ?_, atEnd.incidents.trans (State.deadened_incidents _ i r),
      atEnd.vehicles.trans ((State.deadened_vehicles _ i r).trans (s.tripEnded_uncounted i r)), moved.others,
      atEnd.station.trans (State.deadened_station _ i r), atEnd.background.trans (State.deadened_background _ i r)⟩
    · rw [moved.rcl, Reclose.cancelled_phase]
    · rw [moved.rcl, Reclose.cancelled_shots_of_not_lockedOut (by exact nofun)]
  · have mode' : ((s.setPosition i .opened).tripEnded i).mode = .active := mode
    have shots : ((s.setPosition i .opened).tripEnded i).tables.programs[k].shots[
        (((s.setPosition i .opened).tripEnded i).sec i).rcl.shots]? = some x := by
      rw [ended.rcl]
      exact left
    have found := State.incidentOf_of_live live
    have goes := confirmed.trans (Ev.trippedOpen_of_left (e := Ev.between s ((s.setPosition i .opened).tripEnded i)) here
      mode' kind program shots found last)
    have moves := ended.trans (State.goesOn_moves o.kind t.2 found program shots)
    obtain ⟨u, done, atEnd⟩ := State.report_ends (b := 0) working active rfl position goes rfl
      (moves.settled (State.goesOn_mode _ i _ _) (.inr rfl))
    have moved := moves.ends atEnd
    refine ⟨u, done, ?_, ?_, moved.others, atEnd.station.trans (State.goesOn_station _ i _ _),
      atEnd.incidents.trans (State.goesOn_incidents _ i _ _), atEnd.background.trans (State.goesOn_background _ i _ _)⟩
    · rw [moved.ctl, ended.ctl]
    · rw [moved.rcl, ended.rcl, ended.sel, State.belowHalf_tripEnded]
      rfl

end

/-! SUPPORT. Expiries of a reclose sequence: the dead time, the hold and the reclaim. -/

namespace Sys2Proof.Machine

open Sys2Proof

section
variable {s t : State} {e : Ev} {i : SecNo} {r : Incident} {c : SectionCtl} {q : Reclose} {f : Ev → Ev}

/-! ### Events that change no reported field -/

theorem State.EndStands.blindSettled (h : s.EndStands t) : s.BlindSettled t :=
  ⟨congrArg ModeRecord.mode h.modeRec, fun i => .inl (congrArg SectionCtl.state (h.ctl i))⟩

theorem State.EndStands.finish (h : s.EndStands t) (told : s.SuppliesTold) : (Ev.between s t).finish = t :=
  Ev.between_finish_reporting h.blindSettled (h.suppliesTold told)
    (Ev.between_reports_nil (fun i => by simp [Sec.reported, h.ctl i, h.shots i]) (congrArg Station.reported h.station)
      fun p => congrArg Point.reported (State.point_eq _ _ h.points p))

theorem State.EndStands.event (h : s.EndStands t) (up : s.held = false) (told : s.SuppliesTold)
    (hf : f (Ev.start s) = Ev.between s t) : s.event f = .next t := by
  rw [State.event_of_up up, hf]
  exact congrArg _ (h.finish told)

theorem State.EndStands.delivery (h : s.EndStands t) (working : s.Working) (told : s.SuppliesTold)
    (hf : f (Ev.start s) = Ev.between s t) : s.delivery f = .next t := by
  rw [State.delivery_of_working working, hf]
  exact congrArg _ (h.finish told)

/-- R64: a change of a section's sequence record that keeps its shot count. -/
theorem State.endStands_modRcl (s : State) (i : SecNo) (f : Reclose → Reclose) (shots : ∀ q, (f q).shots = q.shots) :
    s.EndStands (s.modRcl i f) where
  modeRec := rfl
  tables := rfl
  station := rfl
  points := rfl
  ctl j := by
    rw [State.modRcl, State.sec_modSec]
    split <;> rfl
  shots j := by
    rw [State.modRcl, State.sec_modSec]
    split
    · rename_i same
      subst same
      exact shots _
    · rfl

theorem State.modRcl_modRcl (s : State) (i : SecNo) (f g : Reclose → Reclose) :
    (s.modRcl i f).modRcl i g = s.modRcl i fun q => g (f q) := State.modSec_modSec _ _ _ _

/-- R59: nor is a BLIND decision given where no section's state has changed. -/
theorem State.Moves.settled_of_state (h : s.Moves t i c q) (hm : t.mode = s.mode) (hc : c.state = (s.sec i).ctl.state) :
    s.BlindSettled t := by
  refine ⟨hm, fun j => .inl ?_⟩
  by_cases hj : j = i
  · rw [hj, h.ctl, hc]
  · rw [h.others j hj]

/-! ### Lockouts -/

/-- R78: a lockout from reclosing closes the current incident. -/
def State.locksOut (s : State) (i : SecNo) (why : SecReason) (r : Incident) : State :=
  ((s.setSec i .lockedOut why).modRcl i Reclose.ended).closed r .lockedOut

theorem Ev.lockout_s {why : SecReason} (current : e.s.liveIncident i = some r) :
    (e.lockout i why).s = e.s.locksOut i why r := by
  have moves := ((State.Moves.start e.s i).setSec .lockedOut why).modRcl Reclose.ended
  have live : (e.mod fun s => (s.setSec i .lockedOut why).modRcl i Reclose.ended).s.liveIncident i = some r :=
    (moves.liveIncident rfl rfl).trans current
  rw [Ev.lockout, Ev.closeIncident_s live]
  rfl

theorem Ev.lockout_old (e : Ev) (i : SecNo) (why : SecReason) : (e.lockout i why).old = e.old :=
  (Ev.FeedStands.refl.lockout why).old

theorem State.Moves.locksOut (h : s.Moves t i c q) (why : SecReason) : s.Moves (t.locksOut i why r) i
    { c with state := .lockedOut, reason := why } q.ended :=
  ((h.setSec .lockedOut why).modRcl Reclose.ended).closed r .lockedOut

section
variable (s : State) (i : SecNo) (why : SecReason) (r : Incident)

theorem State.locksOut_mode : (s.locksOut i why r).mode = s.mode := rfl
theorem State.locksOut_station : (s.locksOut i why r).station = s.station := rfl
theorem State.locksOut_background : (s.locksOut i why r).background = s.background :=
  State.closed_background ((s.setSec i .lockedOut why).modRcl i Reclose.ended) r .lockedOut

theorem State.locksOut_incidents : (s.locksOut i why r).incidents = s.closedList r.number .lockedOut := rfl
theorem State.locksOut_vehicles : (s.locksOut i why r).vehicles = s.uncounted r :=
  State.uncounted_congr (s := s) (t := (s.setSec i .lockedOut why).modRcl i Reclose.ended) rfl r

end

/-! ### The close of a shot -/

/-- R166: an order for a section's breaker, queued. -/
def State.orders (s : State) (i : SecNo) (k : OrderKind) : State :=
  { s with fieldPort := { s.fieldPort with
      urgent := pushUrgent s.fieldPort.urgent ⟨.sec i, k, s.telegram (s.secEntry i).breaker k.code []⟩ } }

theorem State.Moves.orders (h : s.Moves t i c q) (k : OrderKind) : s.Moves (t.orders i k) i c q := h.of_secs rfl

/-- R12: the order that closes the section for a shot. -/
def State.shotCloses (s : State) (i : SecNo) : State :=
  (((s.orders i .close).setPending i (some (s.order .close .reclose none false))).setSec i .closing .shot).modRcl i fun q =>
    { q with phase := .closing }

theorem Ev.closeRequest_of_allowed (state : (e.s.sec i).ctl.state = .waiting ∨ (e.s.sec i).ctl.state = .testing)
    (mode : e.s.mode ≠ .observe) (allowed : e.s.closeAllowed i = true) :
    e.closeRequest i = e.mod fun s => s.shotCloses i := by
  have queued := State.queueOrder_of_not_observe mode (.sec i) .close
  rw [Ev.closeRequest, if_pos state, if_pos allowed]
  dsimp only [Ev.mod]
  rw [queued]
  rfl

theorem State.Moves.shotCloses (h : s.Moves t i c q) : s.Moves (t.shotCloses i) i
    { c with state := .closing, reason := .shot, pending := some (t.order .close .reclose none false) }
    { q with phase := .closing } := (((h.orders .close).setPending _).setSec .closing .shot).modRcl _

/-- R71: the hold has run out. -/
def State.holdOver (s : State) (i : SecNo) : State := s.modRcl i fun q => { q with hold := none, holdOverdue := true }

theorem State.Moves.holdOver (h : s.Moves t i c q) : s.Moves (t.holdOver i) i c { q with hold := none, holdOverdue := true } :=
  h.modRcl _

theorem Ev.holdExpiry_of_due (due : dueNow e.s.partTime (e.s.sec i).rcl.hold = true) : e.holdExpiry i =
    if (e.s.sec i).rcl.phase = .gating ∧ (e.s.sec i).rcl.gates.vehicles = false
    then (e.mod fun s => s.holdOver i).lockout i .vehicleHoldExpired else e.mod fun s => s.holdOver i := by
  have moves := (State.Moves.start e.s i).holdOver
  have fails : (e.s.holdOver i).holdFails i = !(e.s.sec i).rcl.gates.vehicles := by
    rw [State.holdFails, moves.rcl]
    rfl
  have expires : e.holdExpiry i = if ((e.s.holdOver i).sec i).rcl.phase = .gating ∧ (e.s.holdOver i).holdFails i = true
      then (e.mod fun s => s.holdOver i).lockout i .vehicleHoldExpired else e.mod fun s => s.holdOver i := if_pos due
  rw [expires, fails, moves.rcl]
  simp only [Bool.not_eq_true']

/-- R75: the sequence ends with the reclaim. -/
def State.reclaimed (s : State) (i : SecNo) (r : Incident) : State :=
  ((s.modRcl i fun q => { q with shots := 0, phase := .idle, reclaim := none }).closed r .reclosed).modCtl i fun c =>
    { c with incident := none }

theorem State.Moves.reclaimed (h : s.Moves t i c q) : s.Moves (t.reclaimed i r) i { c with incident := none }
    { q with shots := 0, phase := .idle, reclaim := none } := ((h.modRcl _).closed r .reclosed).modCtl _

theorem Ev.reclaimOver_s (current : e.s.liveIncident i = some r) : (e.reclaimOver i).s = e.s.reclaimed i r := by
  have moves := (State.Moves.start e.s i).modRcl fun q => { q with shots := 0, phase := .idle, reclaim := none }
  have live : (e.mod fun s => s.modRcl i fun q => { q with shots := 0, phase := .idle, reclaim := none }).s.liveIncident i =
      some r := (moves.liveIncident rfl rfl).trans current
  rw [Ev.reclaimOver, Ev.mod_s, Ev.closeIncident_s live]
  rfl

theorem Ev.reclaimOver_old (e : Ev) (i : SecNo) : (e.reclaimOver i).old = e.old := Ev.closeIncident_old _ i .reclosed

section
variable (s : State) (i : SecNo) (r : Incident)

theorem State.reclaimed_mode : (s.reclaimed i r).mode = s.mode := rfl
theorem State.reclaimed_station : (s.reclaimed i r).station = s.station := rfl
theorem State.reclaimed_background : (s.reclaimed i r).background = s.background :=
  State.closed_background (s.modRcl i fun q => { q with shots := 0, phase := .idle, reclaim := none }) r .reclosed

theorem State.reclaimed_incidents : (s.reclaimed i r).incidents = s.closedList r.number .reclosed := rfl
theorem State.reclaimed_vehicles : (s.reclaimed i r).vehicles = s.uncounted r :=
  State.uncounted_congr (s := s) (t := s.modRcl i fun q => { q with shots := 0, phase := .idle, reclaim := none }) rfl r

end

/-! ### The dead time -/

/-- R68: the dead time is over, and gate 1 holds. -/
def State.deadOver (s : State) (i : SecNo) : State :=
  s.modRcl i fun q => { q with dead := none, gates := { q.gates with deadTime := true } }

theorem State.Moves.deadOver (h : s.Moves t i c q) : s.Moves (t.deadOver i) i c
    { q with dead := none, gates := { q.gates with deadTime := true } } := h.modRcl _

/-- R69: gate 1 is judged with its expiry gone. -/
theorem Ev.deadTimeExpiry_of_due (due : dueNow e.s.partTime (e.s.sec i).rcl.dead = true)
    (gating : (e.s.sec i).rcl.phase = .gating) (going : (e.s.sec i).rcl.holdOverdue = false) :
    e.deadTimeExpiry i = if ((e.s.deadOver i).sec i).rcl.gates.all = true
      then (e.mod fun s => s.deadOver i).beginShot i else e.mod fun s => s.deadOver i := by
  let d := e.mod fun s => s.modRcl i fun q => { q with dead := none }
  have rcl : (d.s.sec i).rcl = { (e.s.sec i).rcl with dead := none } := State.sec_modRcl_self _ _ _ ▸ rfl
  have holds : d.s.gateHolds i .deadTime = true := by rw [State.gateHolds, rcl]; rfl
  have order : d.s.modRcl i (fun q => { q with gates := q.gates.put .deadTime true }) = e.s.deadOver i :=
    State.modRcl_modRcl e.s i (fun q => { q with dead := none }) fun q => { q with gates := q.gates.put .deadTime true }
  have fails : (e.s.deadOver i).holdFails i = false := by
    rw [State.holdFails, (State.Moves.start e.s i).deadOver.rcl]
    simp [going]
  have judged : d.reevaluate i .deadTime = if (d.s.sec i).rcl.phase = .gating
      then (let d' := d.mod fun s => s.modRcl i fun q => { q with gates := q.gates.put .deadTime (d.s.gateHolds i .deadTime) }
        if d'.s.holdFails i then d'.lockout i .vehicleHoldExpired
        else if (d'.s.sec i).rcl.gates.all then d'.beginShot i else d')
      else d := rfl
  have expires : e.deadTimeExpiry i = d.reevaluate i .deadTime := if_pos due
  rw [expires, judged, rcl, if_pos gating, holds]
  dsimp only [Ev.mod]
  rw [order, fails]
  rfl

/-- R5: the sequence has no part in the conditions of a close. -/
theorem State.closeAllowed_modRcl (s : State) (i : SecNo) (f : Reclose → Reclose) :
    (s.modRcl i f).closeAllowed i = s.closeAllowed i := by
  rw [State.closeAllowed, State.closeAllowed, State.belowHalf, State.belowHalf, State.sec_modRcl_self]
  rfl

/-- R5: a section that may close is not BLIND. -/
theorem State.seen_of_closeAllowed (h : s.closeAllowed i = true) : (s.sec i).sel.state ≠ .blind := by
  simp only [State.closeAllowed, Bool.and_eq_true, bne_iff_ne] at h
  exact h.1.2

theorem State.shotCloses_urgent (s : State) (i : SecNo) : (s.shotCloses i).fieldPort.urgent =
    pushUrgent s.fieldPort.urgent ⟨.sec i, .close, s.telegram (s.secEntry i).breaker kBreakerClose []⟩ := rfl

theorem State.shotCloses_mode (s : State) (i : SecNo) : (s.shotCloses i).mode = s.mode := rfl
theorem State.shotCloses_station (s : State) (i : SecNo) : (s.shotCloses i).station = s.station := rfl
theorem State.shotCloses_incidents (s : State) (i : SecNo) : (s.shotCloses i).incidents = s.incidents := rfl
theorem State.shotCloses_background (s : State) (i : SecNo) : (s.shotCloses i).background = s.background := rfl

/-- R70, R72: the next shot begins without a line test. -/
def State.shotBegun (s : State) (i : SecNo) (n : Nat) : State :=
  s.modRcl i fun q => { q with shots := n, nextShot := none, dead := none }

theorem State.Moves.shotBegun (h : s.Moves t i c q) (n : Nat) : s.Moves (t.shotBegun i n) i c
    { q with shots := n, nextShot := none, dead := none } := h.modRcl _

theorem Ev.beginShot_of_untested {n : Nat} (next : (e.s.sec i).rcl.nextShot = some n) (within : e.s.exceedsLimit i n = false)
    (untested : (e.s.shotOf i n).any Shot.test = false) : e.beginShot i = (e.mod fun s => s.shotBegun i n).closeRequest i := by
  have begins : e.beginShot i = match (e.s.sec i).rcl.nextShot with
      | none => e
      | some n => if e.s.exceedsLimit i n then e.lockout i .shotsExhausted
        else if (e.s.shotOf i n).any Shot.test then _ else (e.mod fun s => s.shotBegun i n).closeRequest i := rfl
  rw [begins, next]
  dsimp only
  rw [within, untested]
  rfl

end

end Sys2Proof.Machine

section

open Sys2Proof Sys2Proof.Machine

/-- Settles O44: the hold expiry acts on gate 3 alone, and the reclaim expiry closes the incident that was reclosed. -/
theorem holdAndReclaimExpiries : Obligations.HoldAndReclaimExpiries := by
  intro i r s up
  refine ⟨fun told due other => ?_, fun due gating failing current => ?_, fun phase due current => ?_⟩
  · have stands := s.endStands_modRcl i (fun q => { q with hold := none, holdOverdue := true }) fun _ => rfl
    refine stands.event (f := fun e => e.holdExpiry i) up told ((Ev.holdExpiry_of_due due).trans (if_neg ?_))
    rintro ⟨gating, failing⟩
    rcases other with phase | holds
    · exact phase gating
    · exact nomatch failing.symm.trans holds
  · have moves := (State.Moves.start s i).holdOver
    have expires : (Ev.start s).holdExpiry i = (Ev.between s (s.holdOver i)).lockout i .vehicleHoldExpired :=
      (Ev.holdExpiry_of_due due).trans (if_pos ⟨gating, failing⟩)
    have live : (s.holdOver i).liveIncident i = some r := (moves.liveIncident rfl rfl).trans current
    have locked := Ev.lockout_s (e := Ev.between s (s.holdOver i)) (why := .vehicleHoldExpired) live
    have out := moves.locksOut (r := r) .vehicleHoldExpired
    obtain ⟨u, done, atEnd⟩ := State.event_ends (f := fun e => e.holdExpiry i) up expires (Ev.lockout_old _ i _)
      (locked ▸ out.settled (State.locksOut_mode _ i _ r) (.inr rfl))
    rw [locked] at atEnd
    have moved := out.ends atEnd
    exact ⟨u, done, moved.ctl, moved.rcl, atEnd.incidents.trans (State.locksOut_incidents _ i _ r),
      atEnd.vehicles.trans ((State.locksOut_vehicles _ i _ r).trans (State.uncounted_congr (s := s) (t := s.holdOver i) rfl r)),
      moved.others, atEnd.station.trans (State.locksOut_station _ i _ r),
      atEnd.background.trans (State.locksOut_background _ i _ r)⟩
  · have expires : (Ev.start s).reclaimExpiry i = (Ev.start s).reclaimOver i := if_pos ⟨phase, due⟩
    have reclaims : ((Ev.start s).reclaimOver i).s = s.reclaimed i r := Ev.reclaimOver_s (e := Ev.start s) current
    have ended := (State.Moves.start s i).reclaimed (r := r)
    obtain ⟨u, done, atEnd⟩ := State.event_ends (f := fun e => e.reclaimExpiry i) up expires (Ev.reclaimOver_old _ i)
      (reclaims ▸ ended.settled_of_state (s.reclaimed_mode i r) rfl)
    rw [reclaims] at atEnd
    have moved := ended.ends atEnd
    exact ⟨u, done, moved.ctl, moved.rcl, atEnd.incidents.trans (s.reclaimed_incidents i r),
      atEnd.vehicles.trans (s.reclaimed_vehicles i r), moved.others, atEnd.station.trans (s.reclaimed_station i r),
      atEnd.background.trans (s.reclaimed_background i r)⟩

/-- Settles O43: gate 1 is recorded, and the shot begins where it was the last gate failing. -/
theorem deadTimeExpiryBeginsTheShot : Obligations.DeadTimeExpiryBeginsTheShot := by
  intro i s up due gating going
  have expires := Ev.deadTimeExpiry_of_due (e := Ev.start s) due gating going
  have moves := (State.Moves.start s i).deadOver
  rw [Ev.start_s, moves.rcl] at expires
  refine ⟨fun told failing => ?_, fun n window vehicles thermal source station next within untested waiting mode allowed => ?_⟩
  · have stands := s.endStands_modRcl i (fun q => { q with dead := none, gates := { q.gates with deadTime := true } }) fun _ => rfl
    refine stands.event (f := fun e => e.deadTimeExpiry i) up told (expires.trans (if_neg ?_))
    rcases failing with h | h | h | h | h <;> simp [Gates.all, h]
  · have all : ({ (s.sec i).rcl.gates with deadTime := true } : Gates).all = true := by
      simp [Gates.all, window, vehicles, thermal, source, station]
    have begun := moves.shotBegun n
    have begins : (Ev.start s).deadTimeExpiry i = Ev.between s (((s.deadOver i).shotBegun i n).shotCloses i) := by
      have shot : (Ev.between s (s.deadOver i)).beginShot i =
          (Ev.between s ((s.deadOver i).shotBegun i n)).closeRequest i :=
        Ev.beginShot_of_untested (e := Ev.between s (s.deadOver i)) (by rw [Ev.between_s, moves.rcl]; exact next) within
          untested
      have may : ((s.deadOver i).shotBegun i n).closeAllowed i = true :=
        (State.closeAllowed_modRcl _ i _).trans ((State.closeAllowed_modRcl s i _).trans allowed)
      have request : (Ev.between s ((s.deadOver i).shotBegun i n)).closeRequest i =
          Ev.between s (((s.deadOver i).shotBegun i n).shotCloses i) :=
        Ev.closeRequest_of_allowed (e := Ev.between s ((s.deadOver i).shotBegun i n))
          (.inl (by rw [Ev.between_s, begun.ctl]; exact waiting)) mode may
      exact expires.trans ((if_pos all).trans (shot.trans request))
    obtain ⟨u, done, atEnd⟩ := State.event_ends (f := fun e => e.deadTimeExpiry i) up begins rfl
      (begun.shotCloses.settled (State.shotCloses_mode _ i) (.inl (.inl (State.seen_of_closeAllowed allowed))))
    have moved := begun.shotCloses.ends atEnd
    exact ⟨u, done, moved.ctl, moved.rcl, atEnd.urgent.trans (State.shotCloses_urgent _ i), moved.others,
      atEnd.station.trans (State.shotCloses_station _ i), atEnd.incidents.trans (State.shotCloses_incidents _ i), atEnd.background.trans (State.shotCloses_background _ i)⟩

end

/-! SUPPORT. Line tests: a test that is passed, and the shot that fails. -/

namespace Sys2Proof.Machine

open Sys2Proof

section
variable {s t : State} {e : Ev} {i : SecNo} {r : Incident} {c : SectionCtl} {q : Reclose} {o : ShotOutcome}

/-! ### A shot entry in the current incident -/

/-- R8: what the current incident of a section is, while it is OPEN or HELD. -/
theorem State.liveIncident_eq_some : s.liveIncident i = some r ↔ ∃ n, (s.sec i).ctl.incident = some n ∧ s.record? n = some r ∧
    r.object = .sec i ∧ r.state ≠ .closed := by
  rw [State.liveIncident, State.incidentOf]
  cases (s.sec i).ctl.incident with
  | none => simp
  | some n => simp [Option.filter_eq_some_iff]

/-- R92: a record with a shot entry added. -/
def Incident.adds (r : Incident) (n : Nat) (o : ShotOutcome) : Incident := { r with shots := r.shots ++ [(n, o)] }

/-- R92: the list with a shot entry added to one record. -/
def State.shotAdded (s : State) (r : Incident) (n : Nat) (o : ShotOutcome) : State :=
  { s with incidents := s.shotList r.number (n, o) }

theorem State.modRecord_adds (s : State) (r : Incident) (n : Nat) (o : ShotOutcome) :
    s.modRecord r.number (fun x => x.adds n o) = s.shotAdded r n o := by
  have same : (fun x : Incident => if x.number == r.number then x.adds n o else x) = fun x =>
      if x.number = r.number then { x with shots := x.shots ++ [(n, o)] } else x := by
    funext x
    by_cases h : x.number = r.number <;> simp [h, Incident.adds]
  rw [State.modRecord, same]
  rfl

theorem Ev.addShot_s {n : Nat} (current : e.s.liveIncident i = some r) : (e.addShot i n o).s = e.s.shotAdded r n o := by
  rw [Ev.addShot, current]
  dsimp only
  rw [Ev.reportIncident_s, Ev.mod_s]
  exact e.s.modRecord_adds r n o

/-- R92: the current incident with its shot entry. -/
theorem State.liveIncident_shotAdded {n : Nat} (current : s.liveIncident i = some r) :
    (s.shotAdded r n o).liveIncident i = some (r.adds n o) := by
  obtain ⟨k, held, found, own, going⟩ := State.liveIncident_eq_some.mp current
  have number : r.number = k := by simpa using List.find?_some found
  have read : (s.shotAdded r n o).record? k = some (r.adds n o) := by
    rw [← s.modRecord_adds, number, s.record?_modRecord k (fun x => x.adds n o) fun _ => rfl, found]
    rfl
  exact State.liveIncident_eq_some.mpr ⟨k, held, read, own, going⟩

/-! ### A shot that fails -/

/-- R74: the shot entry of a shot that fails, and the end of its line test. -/
def State.shotOver (s : State) (i : SecNo) (r : Incident) (o : ShotOutcome) : State :=
  (s.shotAdded r (s.sec i).rcl.shots o).modRcl i fun q => { q with lineTest := none }

theorem State.Moves.shotOver (h : s.Moves t i c q) : s.Moves (t.shotOver i r o) i c { q with lineTest := none } :=
  (h.of_secs (u := t.shotAdded r (t.sec i).rcl.shots o) rfl).modRcl _

theorem State.liveIncident_shotOver (current : s.liveIncident i = some r) :
    (s.shotOver i r o).liveIncident i = some (r.adds (s.sec i).rcl.shots o) := by
  have moves := (State.Moves.start (s.shotAdded r (s.sec i).rcl.shots o) i).modRcl fun q => { q with lineTest := none }
  exact (moves.liveIncident rfl rfl).trans (State.liveIncident_shotAdded current)

section
variable (s : State) (i : SecNo) (r : Incident) (o : ShotOutcome)

theorem State.shotOver_mode : (s.shotOver i r o).mode = s.mode := rfl
theorem State.shotOver_station : (s.shotOver i r o).station = s.station := rfl
theorem State.shotOver_background : (s.shotOver i r o).background = s.background := rfl
theorem State.shotOver_incidents : (s.shotOver i r o).incidents = s.shotList r.number ((s.sec i).rcl.shots, o) := rfl

theorem State.limitReached_shotOver : (s.shotOver i r o).limitReached i = s.limitReached i := by
  rw [State.limitReached, State.limitReached, (State.Moves.start s i).shotOver.rcl]
  rfl

end

/-- R74: what follows a shot that fails, in another mode than OBSERVE. -/
theorem Ev.shotFailed_eq (mode : e.s.mode ≠ .observe) (current : e.s.liveIncident i = some r) :
    ∃ d : Ev, d.s = e.s.shotOver i r o ∧ e.shotFailed i o = if e.s.limitReached i = true
      then d.lockout i .shotsExhausted else d.startDeadTime i ((e.s.sec i).rcl.shots + 1) := by
  let d := (e.addShot i (e.s.sec i).rcl.shots o).mod fun s => s.modRcl i fun q => { q with lineTest := none }
  have stands : d.s = e.s.shotOver i r o := by
    rw [Ev.mod_s, Ev.addShot_s current]
    rfl
  have fails : e.shotFailed i o = if d.s.mode = .observe then d.lockout i .modeChange
      else if d.s.limitReached i then d.lockout i .shotsExhausted
      else d.startDeadTime i ((d.s.sec i).rcl.shots + 1) := rfl
  refine ⟨d, stands, ?_⟩
  rw [fails, stands, State.shotOver_mode, if_neg mode, State.limitReached_shotOver, (State.Moves.start e.s i).shotOver.rcl]

/-- R71: hold overdue and a vehicle not POLES_DOWN lock the section out as its dead time starts. -/
theorem Ev.startDeadTime_of_held {next : Nat} (h : ((e.s.waits i next).gated i).holdFails i = true) :
    e.startDeadTime i next = (e.mod fun s => (s.waits i next).gated i).lockout i .vehicleHoldExpired := by
  have starts : e.startDeadTime i next = if ((e.s.waits i next).gated i).holdFails i = true
      then (e.mod fun s => (s.waits i next).gated i).lockout i .vehicleHoldExpired
      else e.mod fun s => s.begins i next := rfl
  rw [starts, if_pos h]

/-- R71: whether the hold fails as a dead time starts. -/
theorem State.holdFails_gated (next : Nat) (h : s.incidentOf i = some r) : ((s.waits i next).gated i).holdFails i =
    ((s.sec i).rcl.holdOverdue && !r.vehicles.all fun a => s.polesDownOrGone a.vehicle) := by
  rw [State.holdFails, ((State.Moves.start s i).waits next).gated.rcl, State.gatesNow_waits next h]

/-! ### The line test -/

/-- R73: a line-test result is recorded. -/
def State.tested (s : State) (i : SecNo) (x : Option LineTest) : State := s.modRcl i fun q => { q with lastTest := x }

theorem State.Moves.tested (h : s.Moves t i c q) (x : Option LineTest) :
    s.Moves (t.tested i x) i c { q with lastTest := x } := h.modRcl _

/-- R73: a result that passes the test. -/
def State.passed (s : State) (i : SecNo) (x : LineTest) : State :=
  (s.tested i (some x)).modRcl i fun q => { q with lineTest := none }

theorem State.Moves.passed (h : s.Moves t i c q) (x : LineTest) :
    s.Moves (t.passed i x) i c { q with lastTest := some x, lineTest := none } := (h.tested (some x)).modRcl _

theorem Ev.lineTestResult_eq (e : Ev) (i : SecNo) (result : BitVec 16) : e.lineTestResult i result =
    let d := e.mod fun s => s.tested i (some ⟨result, s.partTime, (e.s.sec i).rcl.phase == .testing⟩)
    if (e.s.sec i).rcl.phase = .testing then
      if result = 0xFFFF ∨ result.toNat < (match e.s.programOf i with | none => 0 | some p => p.testMin)
      then d.shotFailed i .testFailed
      else (d.mod fun s => s.modRcl i fun q => { q with lineTest := none }).closeRequest i
    else d := by
  have judges : e.lineTestResult i result = if ((e.s.sec i).rcl.phase == .testing) = true then _ else _ := rfl
  rw [judges]
  simp only [beq_iff_eq]
  rfl

/-- R73: a result for an active section. -/
theorem Ev.takeLineTest_of_active (active : (e.s.secEntry i).active = true) (a b : Byte) :
    e.takeLineTest (.sec i) [a, b] = e.lineTestResult i (a ++ b) := if_pos active

/-- R73, R74: a test that fails, by its result or by its expiry, fails the shot with at most the result recorded. -/
theorem State.event_of_failed_test {k : Instr} {a b : Byte} (working : s.Working) (active : (s.secEntry i).active = true)
    (testing : (s.sec i).rcl.phase = .testing) (command : k = .lineTestResult (.sec i) [a, b] ∧
      (a ++ b = (0xFFFF : BitVec 16) ∨ ∃ p, s.programOf i = some p ∧ (a ++ b : BitVec 16).toNat < p.testMin) ∨
      k = .lineTestExpiry i ∧ dueNow s.partTime (s.sec i).rcl.lineTest = true) :
    ∃ x, s.BlindSettled ((Ev.between s (s.tested i x)).shotFailed i .testFailed).s → ∃ u, exec k s = .next u ∧
      ((Ev.between s (s.tested i x)).shotFailed i .testFailed).s.EndsAs u := by
  have old (x) : ((Ev.between s (s.tested i x)).shotFailed i .testFailed).old = s :=
    (Ev.FeedStands.refl.shotFailed .testFailed).old
  rcases command with ⟨rfl, low⟩ | ⟨rfl, due⟩
  · refine ⟨some ⟨a ++ b, s.partTime, true⟩, fun settled =>
      State.delivery_ends (f := fun e => e.takeLineTest (.sec i) [a, b]) working ?_ (old _) settled⟩
    have fails : a ++ b = (0xFFFF : BitVec 16) ∨
        (a ++ b : BitVec 16).toNat < (match s.programOf i with | none => 0 | some p => p.testMin) := by
      refine low.imp_right ?_
      rintro ⟨p, program, below⟩
      rw [program]
      exact below
    rw [Ev.takeLineTest_of_active active, Ev.lineTestResult_eq, Ev.start_s, if_pos testing, if_pos fails, testing]
    rfl
  · refine ⟨(s.sec i).rcl.lastTest, fun settled => State.event_ends (f := fun e => e.lineTestExpiry i) working.1 ?_ (old _) settled⟩
    have same : s.tested i (s.sec i).rcl.lastTest = s := State.modSec_same
      (f := fun y => { y with rcl := { y.rcl with lastTest := (s.sec i).rcl.lastTest } }) rfl
    rw [same]
    exact if_pos ⟨testing, due⟩

/-- R71, R74: how a shot that fails ends its sequence, or goes on. -/
theorem Ev.shotFailed_exhausted (mode : e.s.mode ≠ .observe) (current : e.s.liveIncident i = some r)
    (limit : e.s.limitReached i = true) : (e.shotFailed i o).s =
      (e.s.shotOver i r o).locksOut i .shotsExhausted (r.adds (e.s.sec i).rcl.shots o) := by
  obtain ⟨d, stands, fails⟩ := Ev.shotFailed_eq (o := o) mode current
  have live : d.s.liveIncident i = _ := stands ▸ State.liveIncident_shotOver current
  rw [fails, if_pos limit, Ev.lockout_s live, stands]

/-- R71: the same with a shot left: the hold is looked at as its dead time starts. -/
theorem State.holdFails_shotOver (current : s.liveIncident i = some r) (n : Nat) :
    (((s.shotOver i r o).waits i n).gated i).holdFails i =
      ((s.sec i).rcl.holdOverdue && !r.vehicles.all fun a => s.polesDownOrGone a.vehicle) := by
  rw [State.holdFails_gated n (State.incidentOf_of_live (State.liveIncident_shotOver current)),
    (State.Moves.start s i).shotOver.rcl]
  rfl

theorem Ev.shotFailed_held (mode : e.s.mode ≠ .observe) (current : e.s.liveIncident i = some r)
    (left : e.s.limitReached i = false)
    (held : ((e.s.sec i).rcl.holdOverdue && !r.vehicles.all fun a => e.s.polesDownOrGone a.vehicle) = true) :
    (e.shotFailed i o).s = ((((e.s.shotOver i r o).waits i ((e.s.sec i).rcl.shots + 1))).gated i).locksOut i
      .vehicleHoldExpired (r.adds (e.s.sec i).rcl.shots o) := by
  obtain ⟨d, stands, fails⟩ := Ev.shotFailed_eq (o := o) mode current
  have hold : ((d.s.waits i ((e.s.sec i).rcl.shots + 1)).gated i).holdFails i = true :=
    stands ▸ (State.holdFails_shotOver current _).trans held
  have gated := ((State.Moves.start d.s i).waits ((e.s.sec i).rcl.shots + 1)).gated
  have live : ((d.s.waits i ((e.s.sec i).rcl.shots + 1)).gated i).liveIncident i = _ :=
    (gated.liveIncident rfl rfl).trans (stands ▸ State.liveIncident_shotOver current)
  rw [fails, left, if_neg nofun, Ev.startDeadTime_of_held hold,
    Ev.lockout_s (e := d.mod fun s => (s.waits i ((e.s.sec i).rcl.shots + 1)).gated i) live, Ev.mod_s, stands]

theorem Ev.shotFailed_going (mode : e.s.mode ≠ .observe) (current : e.s.liveIncident i = some r)
    (left : e.s.limitReached i = false)
    (free : ((e.s.sec i).rcl.holdOverdue && !r.vehicles.all fun a => e.s.polesDownOrGone a.vehicle) = false) :
    (e.shotFailed i o).s = (e.s.shotOver i r o).begins i ((e.s.sec i).rcl.shots + 1) := by
  obtain ⟨d, stands, fails⟩ := Ev.shotFailed_eq (o := o) mode current
  have hold : ((d.s.waits i ((e.s.sec i).rcl.shots + 1)).gated i).holdFails i = false :=
    stands ▸ (State.holdFails_shotOver current _).trans free
  rw [fails, left, if_neg nofun, Ev.startDeadTime_eq hold, Ev.mod_s, stands]

/-- R78: what a lockout leaves at the end of its event. -/
theorem State.Moves.lockout_ends {u : State} {why : SecReason} (moves : s.Moves t i c q) (vehicles : t.vehicles = s.vehicles)
    (station : t.station = s.station) (background : t.background = s.background) (atEnd : (t.locksOut i why r).EndsAs u) :
    (u.sec i).ctl = { c with state := .lockedOut, reason := why } ∧ (u.sec i).rcl = q.ended ∧ u.vehicles = s.uncounted r ∧
      u.incidents = t.closedList r.number .lockedOut ∧ s.sameSecsBut u i ∧ u.station = s.station ∧
      u.background = s.background :=
  have moved := (moves.locksOut why).ends atEnd
  ⟨moved.ctl, moved.rcl, atEnd.vehicles.trans ((t.locksOut_vehicles i why r).trans (State.uncounted_congr vehicles r)),
    atEnd.incidents.trans (t.locksOut_incidents i why r), moved.others, atEnd.station.trans ((t.locksOut_station i why r).trans station),
    atEnd.background.trans ((t.locksOut_background i why r).trans background)⟩

section
variable (s : State) (i : SecNo) (x : Option LineTest) (r : Incident) (o : ShotOutcome) (n : Nat)

theorem State.shotOver_vehicles : (s.shotOver i r o).vehicles = s.vehicles := rfl
theorem State.gated_waits_mode : ((s.waits i n).gated i).mode = s.mode := rfl
theorem State.gated_waits_station : ((s.waits i n).gated i).station = s.station := rfl
theorem State.gated_waits_vehicles : ((s.waits i n).gated i).vehicles = s.vehicles := rfl
theorem State.gated_waits_background : ((s.waits i n).gated i).background = s.background := rfl
theorem State.gated_waits_closedList (k : Nat) (out : IncOutcome) :
    ((s.waits i n).gated i).closedList k out = s.closedList k out := rfl

theorem State.tested_shotOver_incidents : ((s.tested i x).shotOver i r o).incidents =
    s.shotList r.number ((s.sec i).rcl.shots, o) := by
  rw [State.shotOver_incidents, ((State.Moves.start s i).tested x).rcl]
  rfl

theorem State.tested_shotOver_closedList (k : Nat) (out : IncOutcome) : ((s.tested i x).shotOver i r o).closedList k out =
    ({ s with incidents := s.shotList r.number ((s.sec i).rcl.shots, o) } : State).closedList k out := by
  have stamp : ((s.tested i x).shotOver i r o).stamp = s.stamp := rfl
  rw [State.closedList, State.tested_shotOver_incidents, stamp]
  rfl

end

end

end Sys2Proof.Machine

section

open Sys2Proof Sys2Proof.Machine

/-- Settles O45: a test is judged in TESTING alone, and a shot that fails goes on, or ends at a limit or a hold. -/
theorem lineTestsAreJudgedInTesting : Obligations.LineTestsAreJudgedInTesting := by
  intro i a b s working active
  refine ⟨fun told other => ?_, fun p program phase state result enough mode allowed => ?_,
    fun c r testing mode current command => ?_⟩
  · have stands := s.endStands_modRcl i (fun q => { q with lastTest := some ⟨a ++ b, s.partTime, false⟩ }) fun _ => rfl
    refine stands.delivery (f := fun e => e.takeLineTest (.sec i) [a, b]) working told ?_
    rw [Ev.takeLineTest_of_active active, Ev.lineTestResult_eq, Ev.start_s, if_neg other, beq_false_of_ne other]
    rfl
  · have passes : (Ev.start s).takeLineTest (.sec i) [a, b] =
        Ev.between s ((s.passed i ⟨a ++ b, s.partTime, true⟩).shotCloses i) := by
      have fails : ¬(a ++ b = (0xFFFF : BitVec 16) ∨
          (a ++ b : BitVec 16).toNat < (match s.programOf i with | none => 0 | some p => p.testMin)) := by
        rw [program]
        exact fun h => h.elim result (Nat.not_lt.mpr enough)
      rw [Ev.takeLineTest_of_active active, Ev.lineTestResult_eq, Ev.start_s, if_pos phase, if_neg fails, phase]
      have tested := ((State.Moves.start s i).passed ⟨a ++ b, s.partTime, true⟩).ctl
      exact Ev.closeRequest_of_allowed (e := Ev.between s (s.passed i ⟨a ++ b, s.partTime, true⟩))
        (.inr ((congrArg SectionCtl.state tested).trans state)) mode
        ((State.closeAllowed_modRcl _ i _).trans ((State.closeAllowed_modRcl s i _).trans allowed))
    have moves := ((State.Moves.start s i).passed ⟨a ++ b, s.partTime, true⟩).shotCloses
    obtain ⟨u, done, atEnd⟩ := State.delivery_ends (f := fun e => e.takeLineTest (.sec i) [a, b]) working passes rfl
      (moves.settled (State.shotCloses_mode _ i) (.inl (.inl (State.seen_of_closeAllowed allowed))))
    have moved := moves.ends atEnd
    exact ⟨u, done, moved.ctl, moved.rcl, atEnd.urgent.trans (State.shotCloses_urgent _ i), moved.others,
      atEnd.station.trans (State.shotCloses_station _ i), atEnd.incidents.trans (State.shotCloses_incidents _ i),
      atEnd.background.trans (State.shotCloses_background _ i)⟩
  · obtain ⟨x, exits⟩ := State.event_of_failed_test working active testing command
    have moves := (State.Moves.start s i).tested x
    have live : (s.tested i x).liveIncident i = some r := (moves.liveIncident rfl rfl).trans current
    have limits : (s.tested i x).limitReached i = s.limitReached i := State.limitReached_modRcl _ fun _ => rfl
    refine ⟨fun why reason => ?_, fun k shot mode program left free => ?_⟩
    · have lost := moves.shotOver (r := r) (o := .testFailed)
      rcases reason with ⟨limit, rfl⟩ | ⟨left, overdue, ⟨y, listed, up⟩, rfl⟩
      · have out := Ev.shotFailed_exhausted (e := Ev.between s (s.tested i x)) (o := .testFailed) mode live (limits.trans limit)
        obtain ⟨u, done, atEnd⟩ := exits (out ▸ (lost.locksOut .shotsExhausted).settled
          (State.locksOut_mode _ i _ _) (.inr rfl))
        rw [out] at atEnd
        obtain ⟨ctl, rcl, vehicles, incidents, others, station, background⟩ := lost.lockout_ends (State.shotOver_vehicles _ i r _)
          (State.shotOver_station _ i r _) (State.shotOver_background _ i r _) atEnd
        refine ⟨u, done, ctl, (congrArg Reclose.phase rcl :), (congrArg Reclose.shots rcl :), (congrArg Reclose.lineTest rcl :),
          (congrArg Reclose.hold rcl :), vehicles, ?_, others, station, background⟩
        exact incidents.trans (s.tested_shotOver_closedList i x r .testFailed _ _)
      · have held : ((s.sec i).rcl.holdOverdue && !r.vehicles.all fun a => s.polesDownOrGone a.vehicle) = true := by
          rw [overdue, Bool.true_and, Bool.not_eq_true', List.all_eq_false]
          exact ⟨y, listed, by simp [up]⟩
        have out := Ev.shotFailed_held (e := Ev.between s (s.tested i x)) (o := .testFailed) mode live (limits.trans left)
          (by rw [Ev.between_s, moves.rcl]; exact held)
        have waits := (lost.waits (((s.tested i x).sec i).rcl.shots + 1)).gated
        obtain ⟨u, done, atEnd⟩ := exits (out ▸ (waits.locksOut .vehicleHoldExpired).settled
          ((State.locksOut_mode _ i _ _).trans (State.gated_waits_mode _ i _)) (.inr rfl))
        rw [out] at atEnd
        obtain ⟨ctl, rcl, vehicles, incidents, others, station, background⟩ := waits.lockout_ends
          ((State.gated_waits_vehicles _ i _).trans (State.shotOver_vehicles _ i r _))
          ((State.gated_waits_station _ i _).trans (State.shotOver_station _ i r _))
          ((State.gated_waits_background _ i _).trans (State.shotOver_background _ i r _)) atEnd
        refine ⟨u, done, ctl, (congrArg Reclose.phase rcl :), (congrArg Reclose.shots rcl :), (congrArg Reclose.lineTest rcl :),
          (congrArg Reclose.hold rcl :), vehicles, ?_, others, station, background⟩
        exact incidents.trans ((State.gated_waits_closedList _ i _ _ _).trans
          (s.tested_shotOver_closedList i x r .testFailed _ _))
    · have going : ((s.sec i).rcl.holdOverdue && !r.vehicles.all fun a => s.polesDownOrGone a.vehicle) = false := by
        rcases free with h | h
        · rw [h, Bool.false_and]
        · rw [List.all_eq_true.mpr h, Bool.not_true, Bool.and_false]
      have left' : s.limitReached i = false := State.limitReached_of_shot mode program left
      have out := Ev.shotFailed_going (e := Ev.between s (s.tested i x)) (o := .testFailed) (fun k => nomatch mode.symm.trans k) live
        (limits.trans left') (by rw [Ev.between_s, moves.rcl]; exact going)
      have begun := (moves.shotOver (r := r) (o := .testFailed)).begins (((s.tested i x).sec i).rcl.shots + 1)
      have shots : ((s.tested i x).sec i).rcl.shots = (s.sec i).rcl.shots := by rw [moves.rcl]
      have next : ((s.tested i x).shotOver i r .testFailed).shotOf i (((s.tested i x).sec i).rcl.shots + 1) = some shot := by
        rw [shots]
        exact State.shotOf_of_shot (s := s) program left
      obtain ⟨u, done, atEnd⟩ := exits (out ▸ begun.settled (congrArg ModeRecord.mode (State.begins_modeRec _ i _))
        (.inr rfl))
      rw [out] at atEnd
      have moved := begun.ends atEnd
      rw [next, shots] at moved
      exact ⟨u, done, moved.ctl, (congrArg Reclose.phase moved.rcl :), (congrArg Reclose.nextShot moved.rcl :),
        (congrArg Reclose.shots moved.rcl :), (congrArg Reclose.lineTest moved.rcl :), (congrArg Reclose.dead moved.rcl :),
        (congrArg Reclose.holdBase moved.rcl :), (congrArg Reclose.hold moved.rcl :),
        atEnd.incidents.trans ((State.begins_incidents _ i _).trans (s.tested_shotOver_incidents i x r .testFailed)),
        moved.others, atEnd.station.trans ((State.begins_station _ i _).trans (State.shotOver_station _ i r _)),
        atEnd.background.trans ((State.begins_background _ i _).trans (State.shotOver_background _ i r _))⟩

end

/-! SUPPORT. Statuses of vehicles that report no fault. -/

namespace Sys2Proof.Machine

open Sys2Proof

section
variable {e : Ev} {was v : Vehicle} {st : VehicleStatus}

/-- R98: a vehicle of number `n` that is put into the table is found under its number. -/
theorem find_insertVehicle (v : Vehicle) (l : List Vehicle) :
    (insertVehicle v l).find? (fun x => x.number == v.number) = some v := by
  induction l with
  | nil => simp [insertVehicle]
  | cons w ws ih =>
    unfold insertVehicle
    split
    · simp
    · split
      · simp
      · rename_i _ other
        have apart : ¬ (w.number == v.number) = true := fun k => other (beq_iff_eq.mpr (beq_iff_eq.mp k).symm)
        rw [List.find?_cons_of_neg (p := fun x : Vehicle => x.number == v.number) apart]
        exact ih

/-- R100: a well-formed status without faults. -/
theorem vehicleStatusOf_of_sound {h l m c : Byte} {state : VehState} (hc : vehStateOf c = some state) (hm : m.toNat ≤ 8) :
    vehicleStatusOf [h, l, m, c, 0] = some ⟨read16 h l, secOf m.toNat, state, []⟩ := by
  rw [vehicleStatusOf, hc]
  exact if_pos ⟨hm, by decide, rfl⟩

/-- R104: a status without faults leaves none in an entry that has none. -/
theorem newFaults_nil (now : PartTime) : newFaults [] [] now = [] := rfl

/-- R106: nothing but the report follows a status where there is and was no fault, and no incident lists the vehicle. -/
theorem Ev.handOn_of_sound {admits : Bool} (before : was.faults = []) (after : v.faults = []) (free : v.attributed = 0)
    (prov : was.admitted = false) : e.handOn was v admits =
    if (v.admitted && (admits || v.loc != was.loc)) = true
    then e.vehicleReport (e.s.report kVehicleReport (v.reportBody admits (v.loc != was.loc) false)) else e := by
  have noNotices (d : Ev) : d.obstructionNotices was v admits = d := by
    simp [Ev.obstructionNotices, before, after, holdsFault]
  have noAttachment (d : Ev) : d.incidentNotice was v admits = d := by
    simp [Ev.incidentNotice, after, prov]
  have noChange : faultChange was.faults v.faults = false := by rw [before, after]; rfl
  unfold Ev.handOn
  simp only [noNotices, noAttachment, noChange, free, Nat.lt_irrefl, false_and, if_false, Bool.or_false]

/-- R101, R103, R105: the entry after a status. -/
def State.statusEntry (s : State) (was : Vehicle) (st : VehicleStatus) (admits : Bool) : Vehicle :=
  let v := was.take st s.partTime (s.settings.vehicleSilence * 1000)
  if admits then v.makeAdmitted (s.settings.vehicleSilence * 1000) else v

/-- R99, R101: the table after a status. -/
def State.statusTaken (s : State) (v : Vehicle) : State :=
  (s.addVehicle v).modVehicles fun t => { t with taken := inc16 t.taken }

theorem Ev.statusInto_eq (e : Ev) (was : Vehicle) (st : VehicleStatus) (admits : Bool) : e.statusInto was st admits =
    (e.mod fun s => s.statusTaken (e.s.statusEntry was st admits)).handOn was (e.s.statusEntry was st admits) admits := rfl

/-- R100: a status with a number in range. -/
theorem Ev.takeStatus_of_number (low : 1 ≤ st.vehicle) (high : st.vehicle ≤ 9999) : e.takeStatus st =
    match e.s.vehicle? st.vehicle with
    | some v => e.statusInto v st (!v.admitted)
    | none =>
      if e.s.vehicles.entries.length < vehiclePlaces then e.createVehicle st
      else match oldestCandidate e.s.partTime e.s.vehicles.entries with
        | none => e.tableFull st.vehicle
        | some w =>
          let e := e.mod fun s => (s.removeVehicle w.number).modVehicles fun t =>
            { t with replacements := inc16 t.replacements }
          (e.vehicleReport (e.s.report kVehicleReport (w.removedBody .replaced))).createVehicle st :=
  if_neg (by omega)

end

end Sys2Proof.Machine

section

open Sys2Proof Sys2Proof.Machine

/-- Settles O47: without faults and attributions nothing follows a status but the vehicle's report. -/
theorem vehicleStatusIsTaken : Obligations.VehicleStatusIsTaken := by
  intro h l m c state s working hc hm low high
  have status := vehicleStatusOf_of_sound (h := h) (l := l) hc hm
  refine ⟨fun told unknown room reports => ?_, fun v known prov sound free => ?_⟩
  · refine State.delivery_still (f := fun e => e.vehicleStatus (vehicleStatusOf [h, l, m, c, 0])) working told ?_ rfl rfl rfl
      rfl rfl
    have entry : s.statusEntry (newVehicle (read16 h l) s.partTime (some ⟨s.partTime, s.settings.admitInterval * 100⟩))
        ⟨read16 h l, secOf m.toNat, state, []⟩ false =
        { number := read16 h l, admitted := false, loc := secOf m.toNat, source := .marker, state := state, faults := [],
          lastHeard := s.partTime, admission := some ⟨s.partTime, s.settings.admitInterval * 100⟩, silence := none,
          attributed := 0, lastPoint := none, obstruction := none, lastOrder := none } := by
      cases marker : secOf m.toNat <;> simp [State.statusEntry, Vehicle.take, newVehicle, newFaults_nil]
    rw [status, Ev.vehicleStatus, Ev.takeStatus_of_number low high, Ev.start_s, unknown]
    dsimp only
    rw [if_pos (by exact room), Ev.createVehicle, Ev.start_s, if_neg reports, Ev.statusInto_eq, Ev.start_s, entry,
      Ev.handOn_of_sound rfl rfl rfl rfl, if_neg (by simp)]
    rfl
  · have entry : s.statusEntry v ⟨read16 h l, secOf m.toNat, state, []⟩ true = { v with
        admitted := true, admission := none, lastHeard := s.partTime, state := state,
        silence := some ⟨s.partTime, s.settings.vehicleSilence * 1000⟩,
        loc := if m = 0 then v.loc else secOf m.toNat, source := if m = 0 then v.source else .marker } := by
      by_cases absent : m = 0
      · have marker : secOf m.toNat = none := by rw [absent]; rfl
        rw [if_pos absent, if_pos absent]
        simp [State.statusEntry, Vehicle.take, Vehicle.makeAdmitted, sound, newFaults_nil, marker]
      · have marker : (secOf m.toNat).isSome = true := by
          have positive : m.toNat ≠ 0 := fun k => absent (BitVec.eq_of_toNat_eq k)
          rw [secOf, dif_pos ⟨by omega, hm⟩]
          rfl
        rw [if_neg absent, if_neg absent]
        simp [State.statusEntry, Vehicle.take, Vehicle.makeAdmitted, sound, newFaults_nil, marker]
    have number : v.number = read16 h l := by simpa using List.find?_some known
    obtain ⟨w, hw⟩ : ∃ w, s.statusEntry v ⟨read16 h l, secOf m.toNat, state, []⟩ true = w := ⟨_, rfl⟩
    have admitted : w.admitted = true := by rw [← hw, entry]
    have takes : (Ev.start s).vehicleStatus (vehicleStatusOf [h, l, m, c, 0]) = (Ev.between s (s.statusTaken w)).vehicleReport
        ((s.statusTaken w).report kVehicleReport (w.reportBody true (w.loc != v.loc) false)) := by
      rw [status, Ev.vehicleStatus, Ev.takeStatus_of_number low high, Ev.start_s, known]
      dsimp only
      rw [prov, Bool.not_false, Ev.statusInto_eq, Ev.start_s, hw, Ev.handOn_of_sound sound (by rw [← hw, entry]; exact sound)
        (by rw [← hw, entry]; exact free) prov, if_pos (by simp [admitted])]
      rfl
    obtain ⟨u, done, atEnd⟩ := State.delivery_ends (f := fun e => e.vehicleStatus (vehicleStatusOf [h, l, m, c, 0])) working
      takes rfl (.of_secs rfl rfl)
    have found : (s.statusTaken w).vehicle? (read16 h l) = some w := by
      have same : w.number = read16 h l := by rw [← hw, entry]; exact number
      rw [← same]
      exact find_insertVehicle w s.vehicles.entries
    refine ⟨u, done, ?_, ?_, atEnd.secs, atEnd.station, atEnd.incidents, atEnd.background⟩
    · rw [State.vehicle?, atEnd.vehicles, ← entry, hw]
      exact found
    · rw [atEnd.vehicles]
      rfl

end

/-! SUPPORT. Operations made for every section in turn; the change of mode. -/

namespace Sys2Proof.Machine

open Sys2Proof

/-! ### Sections in turn -/

theorem SecNo.getElem_foldl_set {α : Type} (g : SecNo → α → α) (l : List SecNo) : ∀ v : Vector α 8, l.Nodup →
    ∀ j : SecNo, (l.foldl (fun v i => v.set i (g i v[i])) v)[j] = if j ∈ l then g j v[j] else v[j] := by
  induction l with
  | nil => simp
  | cons i l ih =>
    intro v nodup j
    obtain ⟨fresh, nodup⟩ := List.nodup_cons.mp nodup
    rw [List.foldl_cons, ih _ nodup j]
    by_cases hj : j = i
    · subst hj
      simp [fresh]
    · have apart : (v.set i (g i v[i]))[j] = v[j] := by
        simp only [Fin.getElem_fin]
        exact Vector.getElem_set_ne _ _ fun k => hj (Fin.ext k.symm)
      rw [apart]
      simp [hj]

/-- The sections' records replaced. -/
def State.withSecs (s : State) (v : Vector Sec 8) : State := { s with secs := v }

section
variable (s : State) (v : Vector Sec 8)

theorem State.withSecs_modeRec : (s.withSecs v).modeRec = s.modeRec := rfl
theorem State.withSecs_station : (s.withSecs v).station = s.station := rfl
theorem State.withSecs_incidents : (s.withSecs v).incidents = s.incidents := rfl
theorem State.withSecs_vehicles : (s.withSecs v).vehicles = s.vehicles := rfl
theorem State.withSecs_urgent : (s.withSecs v).fieldPort.urgent = s.fieldPort.urgent := rfl
theorem State.withSecs_background : (s.withSecs v).background = s.background := rfl

end

theorem State.sec_withSecs_ofFn (s : State) (g : SecNo → Sec) (i : SecNo) : (s.withSecs (Vector.ofFn g)).sec i = g i :=
  Vector.getElem_ofFn i.isLt

/-- An operation that changes the record of each section in turn, by what the event finds before the first turn. -/
theorem Ev.forSecs_sets {e : Ev} {f : Ev → SecNo → Ev} (g : SecNo → Sec → Sec)
    (hf : ∀ v i, f (e.mod fun s => s.withSecs v) i = e.mod fun s => s.withSecs (v.set i (g i v[i]))) :
    e.forSecs f = e.mod fun s => s.withSecs (Vector.ofFn fun i => g i (s.sec i)) := by
  have folded (l : List SecNo) : ∀ v : Vector Sec 8, l.foldl f (e.mod fun s => s.withSecs v) =
      e.mod fun s => s.withSecs (l.foldl (fun v (i : SecNo) => v.set i (g i v[i])) v) := by
    induction l with
    | nil => exact fun _ => rfl
    | cons i l ih =>
      intro v
      rw [List.foldl_cons, hf, ih]
      rfl
  have secs : allSecs.foldl (fun v (i : SecNo) => v.set i (g i v[i])) e.s.secs = Vector.ofFn fun i => g i (e.s.sec i) := by
    refine Vector.ext fun j hj => ?_
    have turn := SecNo.getElem_foldl_set g allSecs e.s.secs (List.nodup_finRange 8) ⟨j, hj⟩
    rw [Vector.getElem_ofFn]
    exact turn.trans (if_pos (List.mem_finRange _))
  exact (folded allSecs e.s.secs).trans (congrArg (fun v => e.mod fun s => s.withSecs v) secs)

/-- What operations of several sections write. -/
def Part.OfSecs : Part → Prop
  | .sec _ | .incidents | .vehicles | .urgent | .normal _ => True
  | _ => False

theorem Part.ofSec_le_ofSecs (i : SecNo) : Part.OfSec i ≤ Part.OfSecs := by
  intro k hk
  unfold Part.OfSec at hk
  split at hk <;> trivial

/-- What a section's record is after its turn, by what it was before the first turn. -/
theorem Ev.forSecs_secs {Q : SecNo → Sec → Prop} {e : Ev} {f : Ev → SecNo → Ev}
    (edits : ∀ (d : Ev) i, d.Edits (Part.OfSec i) (f d i))
    (does : ∀ (d : Ev) i, e.Edits Part.OfSecs d → d.s.sec i = e.s.sec i → Q i ((f d i).s.sec i)) (i : SecNo) :
    Q i ((e.forSecs f).s.sec i) := by
  have all : ∀ (l : List SecNo) (d : Ev), l.Nodup → e.Edits Part.OfSecs d → (∀ j ∈ l, d.s.sec j = e.s.sec j) →
      (∀ j, j ∉ l → Q j (d.s.sec j)) → ∀ j, Q j ((l.foldl f d).s.sec j) := by
    intro l
    induction l with
    | nil => exact fun _ _ _ _ after j => after j List.not_mem_nil
    | cons k l ih =>
      intro d nodup written before after
      obtain ⟨fresh, nodup⟩ := List.nodup_cons.mp nodup
      have others (j : SecNo) (hj : j ≠ k) : (f d k).s.sec j = d.s.sec j := (edits d k).state.sec hj id
      refine ih _ nodup (written.trans ((edits d k).mono (Part.ofSec_le_ofSecs k))) (fun j hj => ?_) fun j hj => ?_
      · rw [others j fun x => fresh (x ▸ hj)]
        exact before j (List.mem_cons_of_mem _ hj)
      · by_cases hk : j = k
        · subst hk
          exact does d j written (before j List.mem_cons_self)
        · rw [others j hk]
          exact after j (by simp [hk, hj])
  exact all _ e (List.nodup_finRange 8) .refl (fun _ _ => rfl) (fun j hj => absurd (List.mem_finRange j) hj) i

/-! ### The change of mode -/

section
variable {s t : State} {e : Ev}

/-- R59: no BLIND decision is given in OBSERVE to a section that did not change its state. -/
theorem Ev.blindPass_of_observe (mode : e.s.mode = .observe) (h : ∀ i, (e.s.sec i).ctl.state = (e.old.sec i).ctl.state) :
    e.blindPass = e :=
  e.forSecs_id _ fun i => by simp [mode, h i]

/-- R173: a section's record where its state is derived anew. -/
def State.derived (s : State) (i : SecNo) (x : Sec) : Sec :=
  if (s.secEntry i).active = true ∧ x.ctl.state = .dead ∧ x.ctl.position = .closed ∧ s.station.position = .closed then
    { x with ctl := { x.ctl with state := .live, reason := .modeEntry } }
  else x

theorem State.derived_sel (s : State) (i : SecNo) (x : Sec) : (s.derived i x).sel = x.sel := by
  unfold State.derived
  split <;> rfl

/-- R173: the states of all sections are derived anew. -/
theorem Ev.forSecs_derive (e : Ev) : e.forSecs Ev.derive =
    e.mod fun s => s.withSecs (Vector.ofFn fun i => e.s.derived i (s.sec i)) := by
  refine Ev.forSecs_sets (fun i x => e.s.derived i x) fun v i => ?_
  have derives : (((e.s.withSecs v).secEntry i).active && ((e.s.withSecs v).sec i).ctl.state == .dead &&
      (e.s.withSecs v).bothClosed i) = true ↔ (e.s.secEntry i).active = true ∧ v[i].ctl.state = .dead ∧
        v[i].ctl.position = .closed ∧ e.s.station.position = .closed := by
    simp only [State.bothClosed, Bool.and_eq_true, beq_iff_eq, and_assoc]
    exact Iff.rfl
  have turn : (e.mod fun s => s.withSecs v).derive i = if (((e.s.withSecs v).secEntry i).active &&
      ((e.s.withSecs v).sec i).ctl.state == .dead && (e.s.withSecs v).bothClosed i) = true
      then e.mod fun s => (s.withSecs v).setSec i .live .modeEntry else e.mod fun s => s.withSecs v := rfl
  rw [turn]
  unfold State.derived
  by_cases h : (e.s.secEntry i).active = true ∧ v[i].ctl.state = .dead ∧ v[i].ctl.position = .closed ∧
      e.s.station.position = .closed
  · rw [if_pos (derives.mpr h), if_pos h]
    rfl
  · rw [if_neg fun k => h (derives.mp k), if_neg h]
    simp

/-- R172, R176: a part in OBSERVE is set to ACTIVE. -/
def State.activated (s : State) : State := s.modMode fun r => { r with mode := .active, lastChange := (.setMode, s.partTime) }

theorem Ev.setMode_active (observe : e.s.mode = .observe) (heard : e.s.modeRec.silent = false) (some : e.s.anyActive = true) :
    e.setMode 1 =
      (e.mod fun s => s.activated.withSecs (Vector.ofFn fun i => s.activated.derived i (s.activated.sec i)), .done) := by
  have changed : e.changeMode .active .setMode =
      e.mod fun s => s.activated.withSecs (Vector.ofFn fun i => s.activated.derived i (s.activated.sec i)) := by
    rw [Ev.changeMode, observe]
    exact Ev.forSecs_derive (e.mod State.activated)
  have sets : e.setMode 1 = if e.s.mode ≠ .observe then (e, .done) else if e.s.anyActive = false then (e, .refusedState)
      else (if (e.changeMode .active .setMode).s.modeRec.silent then (e.changeMode .active .setMode).enterAutonomous
        else e.changeMode .active .setMode, .done) := rfl
  rw [sets, changed, if_neg (not_not.mpr observe), some, if_neg nofun, if_neg (by exact fun h => nomatch heard.symm.trans h)]

/-- R176: a part that leaves ACTIVE for OBSERVE, no sequence and no request concerned. -/
theorem Ev.setMode_observe (active : e.s.mode = .active)
    (quiet : ∀ i, (e.s.sec i).rcl.phase ≠ .gating ∧ (e.s.sec i).rcl.phase ≠ .testing)
    (empty : ∀ p, (e.s.point p).queue = []) : e.setMode 0 =
      (e.mod fun s => s.modMode fun r => { r with mode := .observe, lastChange := (.setMode, s.partTime) }, .done) := by
  let d := e.mod fun s => s.modMode fun r => { r with mode := .observe, lastChange := (.setMode, s.partTime) }
  have secs : d.forSecs (fun e i => e.modeActsOn .observe i) = d :=
    Ev.forSecs_id _ _ fun i => Ev.modeActsOn_of_untied .observe (quiet i).1 fun _ => (quiet i).2
  have points : d.forPoints (fun e p => e.mod fun s => s.refuseAll p .outOfService) = d :=
    Ev.forPoints_id _ _ fun p => Ev.mod_same (State.refuseAll_of_empty (s := d.s) (empty p) _)
  have changed : e.changeMode .observe .setMode = d := by
    have effects : e.changeMode .observe .setMode = d.modeEffects e.s.mode .observe := rfl
    rw [effects, active, Ev.modeEffects, secs, points]
  have sets : e.setMode 0 = (if e.s.mode = .observe then e else e.changeMode .observe .setMode, .done) := rfl
  rw [sets, changed, if_neg (by rw [active]; exact nofun)]

end

end Sys2Proof.Machine

section

open Sys2Proof Sys2Proof.Machine

/-- Settles O53: the change of mode derives each section's state by its own record, or finds nothing to act on. -/
theorem setModeChangesTheMode : Obligations.SetModeChangesTheMode := by
  intro r s working may
  have arm (m : Byte) : exec (.setMode r m) s = s.event fun e => e.request r 0x05 fun e =>
      ((e.setMode m).1, some ((e.setMode m).2, [(e.setMode m).1.s.mode.code])) := rfl
  refine ⟨fun observe heard active calm => ?_, fun told active quiet empty => ?_⟩
  · let t := s.countRequest.activated.withSecs
      (Vector.ofFn fun i => s.countRequest.activated.derived i (s.countRequest.activated.sec i))
    have some : s.anyActive = true := by
      obtain ⟨i, on⟩ := active
      refine Bool.of_not_eq_false fun none => ?_
      exact nomatch on.symm.trans ((Vector.any_toList_eq_false _ _).mp none i)
    have sets : (Ev.between s s.countRequest).setMode 1 = (Ev.between s t, .done) :=
      Ev.setMode_active (e := Ev.between s s.countRequest) observe heard some
    have calm' : ∀ i, t.NotBlindOverdue i := fun i => by
      rw [State.NotBlindOverdue, State.sec_withSecs_ofFn, State.derived_sel]
      exact calm i
    let e := (Ev.between s t).answer r.line (answerTelegram s.settings.own r kMgReply 0x05 .done [Mode.active.code])
    have atEnd : t.EndsAs e.finish := Ev.finish_endsAs (e := e) (Ev.blindPass_of_none _ calm')
    have done : exec (.setMode r 1) s = .next e.finish := by
      rw [arm, State.event_request working may, sets]
      rfl
    let d := s.countRequest.activated
    refine ⟨e.finish, done, atEnd.modeRec.trans (d.withSecs_modeRec _), fun i => ?_,
      atEnd.station.trans (d.withSecs_station _), atEnd.incidents.trans (d.withSecs_incidents _),
      atEnd.vehicles.trans (d.withSecs_vehicles _), atEnd.urgent.trans (d.withSecs_urgent _),
      atEnd.background.trans (d.withSecs_background _)⟩
    rw [atEnd.sec]
    exact State.sec_withSecs_ofFn _ _ i
  · let t := s.countRequest.modMode fun q => { q with mode := .observe, lastChange := (.setMode, s.partTime) }
    have sets : (Ev.between s s.countRequest).setMode 0 = (Ev.between s t, .done) :=
      Ev.setMode_observe (e := Ev.between s s.countRequest) active quiet empty
    let e := (Ev.between s t).answer r.line (answerTelegram s.settings.own r kMgReply 0x05 .done [Mode.observe.code])
    have atEnd : e.finish = (t.pushAll .control e.reports).pushNormal r.line
        (answerTelegram s.settings.own r kMgReply 0x05 .done [Mode.observe.code]) :=
      Ev.finish_of_settled (e := e) (Ev.blindPass_of_observe rfl fun _ => rfl) (told.of_same rfl rfl rfl) rfl
    have reports : e.reports = [] :=
      Ev.between_reports_nil (s := s) (t := t) (fun _ => rfl) rfl fun _ => rfl
    rw [arm, State.event_request working may, sets]
    rw [reports] at atEnd
    exact congrArg Host.Outcome.next atEnd

end

/-! SUPPORT. The station position moves the sections. -/

namespace Sys2Proof.Machine

open Sys2Proof

section
variable {s t : State} {e : Ev} {i : SecNo}

/-- R19: a report of the station breaker. -/
def State.stationAt (s : State) (p : Position) : State := s.modStation fun x => { x with position := p }

theorem State.setStation_secs (s : State) (st : StState) (r : StReason) : (s.setStation st r).secs = s.secs := rfl

/-! ### The position becoming CLOSED -/

/-- R20: a section's record as the closed station finds it. -/
def State.energised (s : State) (i : SecNo) (x : Sec) : Sec :=
  if (s.secEntry i).active = true ∧ x.ctl.state = .dead ∧ x.ctl.position = .closed then
    { x with ctl := { x.ctl with state := .live, reason := .stationClosed } }
  else x

theorem State.energised_sel (s : State) (i : SecNo) (x : Sec) : (s.energised i x).sel = x.sel := by
  unfold State.energised
  split <;> rfl

theorem State.energised_rcl (s : State) (i : SecNo) (x : Sec) : (s.energised i x).rcl = x.rcl := by
  unfold State.energised
  split <;> rfl

theorem Ev.forSecs_stationClosed (e : Ev) : e.forSecs Ev.stationClosed =
    e.mod fun s => s.withSecs (Vector.ofFn fun i => e.s.energised i (s.sec i)) := by
  refine Ev.forSecs_sets (fun i x => e.s.energised i x) fun v i => ?_
  have closes : (((e.s.withSecs v).secEntry i).active && ((e.s.withSecs v).sec i).ctl.state == .dead &&
      ((e.s.withSecs v).sec i).ctl.position == .closed) = true ↔ (e.s.secEntry i).active = true ∧ v[i].ctl.state = .dead ∧
        v[i].ctl.position = .closed := by
    simp only [Bool.and_eq_true, beq_iff_eq, and_assoc]
    exact Iff.rfl
  have turn : (e.mod fun s => s.withSecs v).stationClosed i = if (((e.s.withSecs v).secEntry i).active &&
      ((e.s.withSecs v).sec i).ctl.state == .dead && ((e.s.withSecs v).sec i).ctl.position == .closed) = true
      then e.mod fun s => (s.withSecs v).setSec i .live .stationClosed else e.mod fun s => s.withSecs v := rfl
  rw [turn]
  unfold State.energised
  by_cases h : (e.s.secEntry i).active = true ∧ v[i].ctl.state = .dead ∧ v[i].ctl.position = .closed
  · rw [if_pos (closes.mpr h), if_pos h]
    rfl
  · rw [if_neg fun k => h (closes.mp k), if_neg h]
    simp

/-! ### The position becoming OPEN -/

/-- R20, R79: a section's record as the open station leaves it. -/
def Sec.deenergised (x : Sec) : Sec :=
  let c := { x.ctl with
    state := .dead, reason := .stationOpen, pending := none,
    tripLine := !(x.ctl.pending.any PendingOrder.usesLine) && x.ctl.tripLine }
  { x with ctl := c.cancelled x.rcl, rcl := x.rcl.cancelled c }

theorem Ev.closeIncident_secs (e : Ev) (i : SecNo) (o : IncOutcome) : (e.closeIncident i o).s.secs = e.s.secs := by
  cases current : e.s.liveIncident i with
  | none => rw [Ev.closeIncident, current]
  | some r => rw [Ev.closeIncident_s current]; rfl

/-- R20: what the turn of a section does. -/
theorem Ev.stationOpened_sec (e : Ev) (i : SecNo) : ((e.stationOpened i).s.sec i) =
    if (e.s.sec i).ctl.state.opensWithStation = true then (e.s.sec i).deenergised else e.s.sec i := by
  let dead := ((e.s.modCtl i fun c => { c with tripLine := !((e.s.sec i).ctl.pending.any PendingOrder.usesLine) && c.tripLine
    }).setSec i .dead .stationOpen).setPending i none
  let t := dead.withdraw (.sec i)
  have opens : e.stationOpened i = if (e.s.sec i).ctl.state.opensWithStation = true
      then ((e.mod fun _ => t).closeIncident i .stationOpen).cancelSequence i else e := by
    unfold Ev.stationOpened
    dsimp only [Ev.mod]
    rw [State.releaseLineIf_eq]
  rw [opens]
  split
  · have sec : t.sec i = { e.s.sec i with ctl := { (e.s.sec i).ctl with
        state := .dead, reason := .stationOpen, pending := none,
        tripLine := !((e.s.sec i).ctl.pending.any PendingOrder.usesLine) && (e.s.sec i).ctl.tripLine } } := by
      rw [State.sec_eq t dead rfl]
      simp only [dead, State.setPending, State.setSec, State.sec_modCtl_self]
    rw [Ev.cancelSequence_eq, Ev.mod_s, State.cancelled, State.sec_modSec_self,
      State.sec_eq _ t (Ev.closeIncident_secs (e.mod fun _ => t) i .stationOpen) i, sec]
    rfl
  · rfl

/-- R20: the turns of all sections. -/
theorem Ev.forSecs_stationOpened (e : Ev) (i : SecNo) : (e.forSecs Ev.stationOpened).s.sec i =
    if (e.s.sec i).ctl.state.opensWithStation = true then (e.s.sec i).deenergised else e.s.sec i := by
  refine Ev.forSecs_secs (Q := fun i x => x =
    if (e.s.sec i).ctl.state.opensWithStation = true then (e.s.sec i).deenergised else e.s.sec i)
    (fun _ _ => Ev.Edits.refl.stationOpened le_rfl) (fun d j _ same => ?_) i
  rw [d.stationOpened_sec j, same]

theorem Ev.forSecs_stationOpened_edits (e : Ev) : e.Edits Part.OfSecs (e.forSecs Ev.stationOpened) :=
  Ev.Edits.refl.forSecs _ fun _ i k => k.stationOpened (Part.ofSec_le_ofSecs i)

/-! ### The report -/

/-- R19: a report of an OPEN station's breaker that has closed. -/
def State.stationShut (s : State) : State :=
  ((s.stationAt .closed).withSecs (Vector.ofFn fun i => s.energised i (s.sec i))).setStation .closed .localClose

theorem State.stationShut_sec (s : State) (i : SecNo) : s.stationShut.sec i = s.energised i (s.sec i) :=
  State.sec_withSecs_ofFn (s.stationAt .closed) _ i

theorem Ev.stationReport_closed (state : e.s.station.state = .opened) (position : e.s.station.position ≠ .closed)
    (quiet : ∀ i, (e.s.sec i).rcl.phase ≠ .gating) : e.stationReport .closed = e.mod State.stationShut := by
  let turns : Ev → Ev := fun e =>
    (if e.s.station.state = .tripping then e else e.stationPosition .closed).judgeStationReport e.s.station.state .closed
  have shut : turns e = e.mod State.stationShut := by
    have moved : e.stationPosition .closed = (e.mod fun s => s.stationAt .closed).forSecs Ev.stationClosed := if_neg position
    have judged : turns e = ((e.mod fun s => s.stationAt .closed).forSecs Ev.stationClosed).judgeStationReport .opened .closed := by
      simp only [turns]
      rw [state, if_neg nofun, moved]
    rw [judged, Ev.forSecs_stationClosed]
    rfl
  have reports : e.stationReport .closed = e.withStation turns := rfl
  rw [reports, Ev.withStation_of_not_gating, shut]
  intro i
  rw [shut, Ev.mod_s, State.stationShut_sec, State.energised_rcl]
  exact quiet i

/-- R19: a report of a CLOSED station's breaker that has opened. -/
theorem Ev.stationReport_opened (state : e.s.station.state = .closed) (position : e.s.station.position = .closed)
    (quiet : ∀ i, (((e.mod fun s => s.stationAt .opened).forSecs Ev.stationOpened).s.sec i).rcl.phase ≠ .gating) :
    e.stationReport .opened =
      ((e.mod fun s => s.stationAt .opened).forSecs Ev.stationOpened).mod fun s => s.setStation .opened .localOpen := by
  let turns : Ev → Ev := fun e => (e.stationPosition .opened).judgeStationReport e.s.station.state .opened
  have opened : turns e =
      ((e.mod fun s => s.stationAt .opened).forSecs Ev.stationOpened).mod fun s => s.setStation .opened .localOpen := by
    have moved : e.stationPosition .opened = (e.mod fun s => s.stationAt .opened).forSecs Ev.stationOpened :=
      if_neg (by rw [position]; exact nofun)
    simp only [turns]
    rw [state, moved]
    rfl
  have reports : e.stationReport .opened = e.withStation turns := rfl
  rw [reports, Ev.withStation_of_not_gating, opened]
  intro i
  rw [opened, Ev.mod_s, State.sec_eq _ _ (State.setStation_secs _ _ _)]
  exact quiet i

theorem SecState.opensWithStation_iff (st : SecState) :
    st.opensWithStation = true ↔ st ∈ [SecState.live, .closing, .opening, .waiting, .testing] := by
  cases st <;> decide

/-- R20, R79: what the open station makes of a section's records. -/
theorem Sec.deenergised_ctl (x : Sec) : x.deenergised.ctl = { x.ctl with
    state := .dead, reason := .stationOpen, pending := none,
    tripLine := !(x.ctl.pending.any PendingOrder.usesLine) && x.ctl.tripLine,
    incident := if x.rcl.phase = .idle then x.ctl.incident else none } :=
  SectionCtl.cancelled_of_not_lockedOut (by exact nofun)

theorem Sec.deenergised_phase (x : Sec) : x.deenergised.rcl.phase = .idle := Reclose.cancelled_phase _ _

theorem Sec.deenergised_shots (x : Sec) : x.deenergised.rcl.shots = if x.rcl.phase = .idle then x.rcl.shots else 0 :=
  Reclose.cancelled_shots_of_not_lockedOut (by exact nofun)

end

end Sys2Proof.Machine

section

open Sys2Proof Sys2Proof.Machine

/-- Settles O38: each section has its turn by its own record, and none is left that waits for its gates. -/
theorem stationPositionMovesTheSections : Obligations.StationPositionMovesTheSections := by
  intro s working
  refine ⟨fun lawful state position => ?_, fun state position calm => ?_⟩
  · have arm : exec (.breakerState .station [0]) s = s.delivery fun e => e.stationReport .opened := rfl
    have edits := ((Ev.start s).mod fun s => s.stationAt .opened).forSecs_stationOpened_edits
    have secs := ((Ev.start s).mod fun s => s.stationAt .opened).forSecs_stationOpened
    have report := Ev.stationReport_opened (e := Ev.start s) state position
    generalize ((Ev.start s).mod fun s => s.stationAt .opened).forSecs Ev.stationOpened = e at edits secs report
    have opened (i : SecNo) (h : (s.sec i).ctl.state ∈ [SecState.live, .closing, .opening, .waiting, .testing]) :
        e.s.sec i = (s.sec i).deenergised := (secs i).trans (if_pos ((SecState.opensWithStation_iff _).mpr h))
    have stands (i : SecNo) (h : (s.sec i).ctl.state ∉ [SecState.live, .closing, .opening, .waiting, .testing]) :
        e.s.sec i = s.sec i := (secs i).trans (if_neg fun k => h ((SecState.opensWithStation_iff _).mp k))
    have quiet (i : SecNo) : (e.s.sec i).rcl.phase ≠ .gating := by
      by_cases h : (s.sec i).ctl.state ∈ [SecState.live, .closing, .opening, .waiting, .testing]
      · rw [opened i h, Sec.deenergised_phase]
        exact nofun
      · rw [stands i h]
        intro gating
        rw [(lawful.sections i).gating gating] at h
        exact h (by simp)
    have modeRec : e.s.modeRec = s.modeRec := edits.state.modeRec id id id
    have settled : s.BlindSettled (e.s.setStation .opened .localOpen) := by
      refine ⟨congrArg ModeRecord.mode modeRec, fun i => ?_⟩
      rw [State.sec_eq _ _ (e.s.setStation_secs .opened .localOpen)]
      by_cases h : (s.sec i).ctl.state ∈ [SecState.live, .closing, .opening, .waiting, .testing]
      · rw [opened i h, Sec.deenergised_ctl]
        exact .inr (.inr rfl)
      · exact .inl (by rw [stands i h])
    obtain ⟨u, done, atEnd⟩ := State.delivery_ends (f := fun e => e.stationReport .opened) working (report quiet) edits.old settled
    have sec (i : SecNo) : u.sec i = e.s.sec i := (atEnd.sec i).trans (State.sec_eq _ _ (e.s.setStation_secs _ _) i)
    have station : e.s.station = { s.station with position := .opened } := edits.state.station id id
    refine ⟨u, done, ?_, fun i h => ?_, fun i h => (sec i).trans (stands i h), atEnd.modeRec.trans modeRec,
      atEnd.background.trans (edits.state.background id id id id id)⟩
    · have told : u.station = { e.s.station with state := .opened, reason := .localOpen } := atEnd.station
      rw [told, station]
    · rw [sec, opened i h, Sec.deenergised_ctl]
      exact ⟨rfl, rfl, rfl, rfl, Sec.deenergised_phase _, Sec.deenergised_shots _⟩
  · have arm : exec (.breakerState .station [1]) s = s.delivery fun e => e.stationReport .closed := rfl
    have shut := Ev.stationReport_closed (e := Ev.start s) (by rw [Ev.start_s, state]) position fun i => (calm i).2
    have settled : ∀ i, s.stationShut.NotBlindOverdue i := fun i => by
      rw [State.NotBlindOverdue, State.stationShut_sec, State.energised_sel]
      exact (calm i).1
    have atEnd := Ev.finish_endsAs (Ev.blindPass_of_none (Ev.between s s.stationShut) settled)
    refine ⟨(Ev.between s s.stationShut).finish, ?_, ?_, fun i => ?_, atEnd.incidents, atEnd.vehicles, atEnd.modeRec,
      atEnd.background⟩
    · rw [arm, State.delivery_of_working working, shut]
      rfl
    · rw [atEnd.station]
      rfl
    · rw [atEnd.sec]
      exact s.stationShut_sec i

end

/-! SUPPORT. The warm restart. -/

namespace Sys2Proof.Machine

open Sys2Proof

/-- What the warm restart writes beside the records of the blocks. -/
def Part.OfWarm : Part → Prop
  | .sec _ | .incidents | .vehicles | .urgent | .normal _ | .point _ | .supervisor | .heads => True
  | _ => False

theorem Part.ofTraffic_le_ofWarm : Part.OfTraffic ≤ Part.OfWarm := by
  intro k hk
  cases k <;> trivial

theorem Part.ofSecs_le_ofWarm : Part.OfSecs ≤ Part.OfWarm := by
  intro k hk
  cases k <;> trivial

section
variable {s t : State} (h : s.EndsAs t)

include h

theorem State.EndsAs.partTime : t.partTime = s.partTime := congrArg Prod.fst h.background
theorem State.EndsAs.tables : t.tables = s.tables := congrArg (fun b => b.2.2.2.1) h.background
theorem State.EndsAs.storeMem : t.storeMem = s.storeMem := congrArg (fun b => b.2.2.2.2.2.2.1) h.background
theorem State.EndsAs.pending : t.pending = s.pending := congrArg (fun b => b.2.2.2.2.2.2.2.2) h.background

end

section
variable {e : Ev} {i : SecNo}

/-! ### One section -/

theorem Ev.lockout_sec (e : Ev) (i : SecNo) (why : SecReason) : (e.lockout i why).s.sec i =
    { e.s.sec i with
      ctl := { (e.s.sec i).ctl with state := .lockedOut, reason := why }, rcl := (e.s.sec i).rcl.ended } := by
  let t := (e.s.setSec i .lockedOut why).modRcl i Reclose.ended
  have locked : (e.lockout i why).s.sec i = t.sec i :=
    State.sec_eq _ t (Ev.closeIncident_secs (e.mod fun _ => t) i .lockedOut) i
  rw [locked]
  simp only [t, State.setSec, State.sec_modRcl_self, State.sec_modCtl_self]

/-- R1, R27, R49, R52, R65: what a warm restart keeps of a section and what it sets anew. -/
structure Sec.Warmed (x y : Sec) : Prop where
  ctl : y.ctl = if x.ctl.state ∈ [SecState.waiting, .testing] then
      { x.ctl with state := .lockedOut, reason := .restart, pending := none, former := none }
    else { x.ctl with pending := none, former := none }
  thermal : y.feed.h = x.feed.h
  last : y.feed.prev = none
  rising : y.feed.rising = false
  prim : y.prim = coldSource
  seco : y.seco = coldSource
  blind : y.sel.state = .blind
  overdue : y.sel.overdue = false
  shots : y.rcl.shots = x.rcl.shots

/-- R180: a section's record once its sequence is over. -/
def Sec.warm (x : Sec) : Sec :=
  { x with ctl := { x.ctl with pending := none, former := none }, feed := x.feed.warm, prim := coldSource,
           seco := coldSource, sel := coldSelector, rcl := x.rcl.warm }

theorem Ev.warmSection_sec (e : Ev) (i : SecNo) : (e.s.sec i).Warmed ((e.warmSection i).s.sec i) := by
  let d := if (e.s.sec i).ctl.state = .waiting ∨ (e.s.sec i).ctl.state = .testing then e.lockout i .restart else e
  have warms : e.warmSection i = d.mod fun s =>
      if ((s.modSec i Sec.warm).secEntry i).active then (s.modSec i Sec.warm).startBlind i else s.modSec i Sec.warm := rfl
  have sec : ∃ x : Selector, (e.warmSection i).s.sec i = { (d.s.sec i).warm with sel := x } ∧ x.state = .blind ∧
      x.overdue = false := by
    rw [warms, Ev.mod_s]
    split
    · refine ⟨((((d.s.modSec i Sec.warm).startBlind i).sec i)).sel, ?_, ?_, ?_⟩ <;>
        rw [State.startBlind, State.beginBlind, State.modSel, State.sec_modSec_self, State.sec_modSec_self,
          State.sec_modSec_self]
      · rfl
      · rfl
    · exact ⟨coldSelector, State.sec_modSec_self _ _ _, rfl, rfl⟩
  obtain ⟨x, sec, blind, overdue⟩ := sec
  have before : (d.s.sec i).ctl = (if (e.s.sec i).ctl.state ∈ [SecState.waiting, .testing] then
      { (e.s.sec i).ctl with state := .lockedOut, reason := .restart } else (e.s.sec i).ctl) ∧
      (d.s.sec i).feed = (e.s.sec i).feed ∧ (d.s.sec i).rcl.shots = (e.s.sec i).rcl.shots := by
    simp only [d, List.mem_cons, List.not_mem_nil, or_false]
    split
    · rw [Ev.lockout_sec]
      exact ⟨rfl, rfl, rfl⟩
    · exact ⟨rfl, rfl, rfl⟩
  obtain ⟨ctl, feed, shots⟩ := before
  rw [sec]
  refine ⟨?_, ?_, rfl, rfl, rfl, rfl, blind, overdue, shots⟩
  · rw [Sec.warm, ctl]
    split <;> rfl
  · rw [Sec.warm, feed]
    rfl

/-! ### All blocks -/

/-- R180: the records and the START_REPORTs; the sections; the points. -/
def Ev.warmRecorded (e : Ev) (tag : Byte) : Ev := (e.mod fun s => s.warmRecords tag).mod fun s => s.startReports

theorem Ev.warmRecorded_edits (e : Ev) (tag : Byte) :
    (e.mod fun s => s.warmRecords tag).Edits Part.OfTraffic (e.warmRecorded tag) :=
  Ev.Edits.refl.mod (f := fun s => s.startReports) (.startReports (fun _ => trivial) .refl)

theorem Ev.warmSections_edits (e : Ev) : e.Edits Part.OfSecs (e.forSecs Ev.warmSection) :=
  Ev.Edits.refl.forSecs _ fun _ i k => k.warmSection (Part.ofSec_le_ofSecs i)

theorem Ev.warmPoints_edits (e : Ev) (tag : Byte) :
    ((e.warmRecorded tag).forSecs Ev.warmSection).Edits Part.OfTraffic (e.warmRestart tag) := by
  let secs := (e.warmRecorded tag).forSecs Ev.warmSection
  have points : secs.Edits Part.OfTraffic (secs.forPoints fun e p => e.mod fun s => s.warmPoint p) := by
    refine Ev.Edits.refl.forPoints _ fun e p k => k.mod ?_
    exact .modPoint trivial (.refuseAll (Part.queue_le (Part.ofPoint_le_ofTraffic p)) .refl _) _
      (fun b => ⟨b.occupancy, b.queue⟩) rfl
  have warms : e.warmRestart tag = (secs.forPoints fun e p => e.mod fun s => s.warmPoint p).mod fun s =>
      s.modSupervisor fun _ => coldSupervisor := rfl
  rw [warms]
  exact points.mod (f := fun s => s.modSupervisor fun _ => coldSupervisor) (.modSupervisor trivial .refl _)

theorem Ev.warmRestart_edits (e : Ev) (tag : Byte) :
    (e.mod fun s => s.warmRecords tag).Edits Part.OfWarm (e.warmRestart tag) :=
  (((e.warmRecorded_edits tag).mono Part.ofTraffic_le_ofWarm).trans
    ((e.warmRecorded tag).warmSections_edits.mono Part.ofSecs_le_ofWarm)).trans
      ((e.warmPoints_edits tag).mono Part.ofTraffic_le_ofWarm)

theorem Ev.warmRestart_sec (e : Ev) (tag : Byte) (i : SecNo) : (e.s.sec i).Warmed ((e.warmRestart tag).s.sec i) := by
  have before : (e.warmRecorded tag).s.sec i = e.s.sec i := (e.warmRecorded_edits tag).state.sec id id
  have turns : ((e.warmRecorded tag).s.sec i).Warmed (((e.warmRecorded tag).forSecs Ev.warmSection).s.sec i) :=
    Ev.forSecs_secs (Q := fun i y => ((e.warmRecorded tag).s.sec i).Warmed y) (fun _ _ => Ev.Edits.refl.warmSection le_rfl)
      (fun d j _ same => same ▸ d.warmSection_sec j) i
  rw [(e.warmPoints_edits tag).state.sec id id, ← before]
  exact turns

/-- R180: what is in flight refuses a warm restart. -/
theorem State.warmRefused_eq_false {s : State} (secs : ∀ i, (s.sec i).ctl.state ∉ [SecState.closing, .opening, .tripping])
    (station : s.station.state ∉ [StState.closing, .tripping]) (points : ∀ p, (s.point p).activity ≠ .throwing)
    (store : s.store.op = none) : s.warmRefused = false := by
  have orders : s.ordering = false := by
    rw [State.ordering, Bool.or_eq_false_iff, Bool.or_eq_false_iff, Vector.any_toList_eq_false]
    simp only [List.mem_cons, List.not_mem_nil, or_false, not_or] at station
    refine ⟨⟨fun i => ?_, beq_false_of_ne station.1⟩, beq_false_of_ne station.2⟩
    have quiet := secs i
    simp only [List.mem_cons, List.not_mem_nil, or_false, not_or] at quiet
    simp only [Bool.or_eq_false_iff, beq_eq_false_iff_ne]
    exact ⟨⟨quiet.1, quiet.2.1⟩, quiet.2.2⟩
  have throws : s.throwing = false := by
    rw [State.throwing, Vector.any_toList_eq_false]
    exact fun p => beq_false_of_ne (points p)
  rw [State.warmRefused, orders, throws, store]
  rfl

end

end Sys2Proof.Machine

section

open Sys2Proof Sys2Proof.Machine

/-- Settles O60: each section is warmed in its turn, and nothing that follows touches the records of the other blocks. -/
theorem warmRestartKeepsTheRecords : Obligations.WarmRestartKeepsTheRecords := by
  intro r s working may store secs station points
  have arm : exec (.restartWarm r) s = s.event fun e => e.request r 0x0E fun e =>
      if e.s.warmRefused then (e, some (.refusedState, [])) else (e.warmRestart r.tag, none) := rfl
  have free : (Ev.between s s.countRequest).s.warmRefused = false :=
    State.warmRefused_eq_false (s := s.countRequest) secs station points store
  have edits := ((Ev.between s s.countRequest).warmRestart_edits r.tag).state
  have warmed := (Ev.between s s.countRequest).warmRestart_sec r.tag
  have restarts : exec (.restartWarm r) s = .next ((Ev.between s s.countRequest).warmRestart r.tag).finish := by
    rw [arm, State.event_request working may, free, if_neg nofun]
  generalize (Ev.between s s.countRequest).warmRestart r.tag = e at edits warmed restarts
  have atEnd := Ev.finish_endsAs (Ev.blindPass_of_none e fun i => .inr (warmed i).overdue)
  refine ⟨e.finish, restarts, ?_, ?_, ?_, fun i => ?_, ?_, ?_, ?_, ?_⟩
  · exact atEnd.modeRec.trans (edits.modeRec id id id)
  · exact atEnd.station.trans (edits.station id id)
  · exact atEnd.commands.trans (edits.commands id id)
  · rw [atEnd.sec]
    obtain ⟨ctl, thermal, last, rising, prim, seco, blind, -, shots⟩ := warmed i
    exact ⟨ctl, thermal, last, rising, prim, seco, blind, shots⟩
  · exact atEnd.tables.trans (edits.tables id id)
  · exact atEnd.storeMem.trans (edits.storeMem id id)
  · exact atEnd.partTime.trans (edits.partTime id)
  · exact atEnd.pending.trans (edits.pending id)

end

/-! SUPPORT. A trip from protection that opens an incident, and the sample that gives it. -/

namespace Sys2Proof.Machine

open Sys2Proof

/-! ### What follows the opening of an incident -/

/-- R90: a record that attachments have reached is as it was but for its vehicles; only the record of number `n` grows. -/
structure Incident.Grown (n : Nat) (y x : Incident) : Prop where
  rest : { x with vehicles := y.vehicles, more := y.more } = y
  other : y.number ≠ n → x = y

theorem Incident.Grown.refl (n : Nat) (x : Incident) : x.Grown n x := ⟨rfl, fun _ => rfl⟩

theorem Incident.Grown.number {n : Nat} {x y : Incident} (h : y.Grown n x) : x.number = y.number :=
  (congrArg Incident.number h.rest :)

theorem Incident.Grown.trans {n : Nat} {x y z : Incident} (h : z.Grown n y) (k : y.Grown n x) : z.Grown n x where
  rest := by
    have inner := congrArg (fun r : Incident => { r with vehicles := z.vehicles, more := z.more }) k.rest
    exact inner.trans h.rest
  other hz := (k.other (by rw [h.number]; exact hz)).trans (h.other hz)

/-- What attachments and alarms leave of a section's records, the station, the orders and the incidents that are not closed,
but for the vehicles of the record of number `n`. -/
structure State.Kept (i : SecNo) (n : Nat) (s t : State) : Prop where
  ctl : (t.sec i).ctl = (s.sec i).ctl
  rcl : (t.sec i).rcl = (s.sec i).rcl
  station : t.station = s.station
  urgent : t.fieldPort.urgent = s.fieldPort.urgent
  records : ∀ y ∈ s.incidents.records, y.state ≠ .closed → ∃ x ∈ t.incidents.records, y.Grown n x

namespace State.Kept

variable {s t u : State} {i : SecNo} {n : Nat}

theorem refl : s.Kept i n s := ⟨rfl, rfl, rfl, rfl, fun y hy _ => ⟨y, hy, .refl n y⟩⟩

theorem trans (h : s.Kept i n t) (k : t.Kept i n u) : s.Kept i n u where
  ctl := k.ctl.trans h.ctl
  rcl := k.rcl.trans h.rcl
  station := k.station.trans h.station
  urgent := k.urgent.trans h.urgent
  records y hy live := by
    obtain ⟨x, hx, grown⟩ := h.records y hy live
    have same : x.state = y.state := (congrArg Incident.state grown.rest :)
    have open' : x.state ≠ .closed := same ▸ live
    obtain ⟨z, hz, grown'⟩ := k.records x hx open'
    exact ⟨z, hz, grown.trans grown'⟩

theorem modFeed (h : s.Kept i n t) (f : Feeder → Feeder) : s.Kept i n (t.modFeed i f) :=
  h.trans ⟨by rw [State.modFeed, State.sec_modSec_self], by rw [State.modFeed, State.sec_modSec_self], rfl, rfl,
    fun y hy _ => ⟨y, hy, .refl n y⟩⟩

theorem of_writes (h : s.Kept i n t) (secs : u.secs = t.secs) (station : u.station = t.station)
    (urgent : u.fieldPort.urgent = t.fieldPort.urgent) (incidents : u.incidents = t.incidents) : s.Kept i n u :=
  h.trans ⟨by rw [State.sec_eq _ _ secs], by rw [State.sec_eq _ _ secs], station, urgent,
    fun y hy _ => ⟨y, incidents ▸ hy, .refl n y⟩⟩

/-- R90: the record of number `n` grows. -/
theorem modRecord (h : s.Kept i n t) {f : Incident → Incident} (hf : ∀ y : Incident, y.number = n → y.Grown n (f y)) :
    s.Kept i n (t.modRecord n f) := by
  refine h.trans ⟨rfl, rfl, rfl, rfl, fun y hy _ => ⟨_, List.mem_map_of_mem hy, ?_⟩⟩
  split
  case isTrue found => exact hf y (eq_of_beq found)
  case isFalse => exact .refl n y

theorem modVehicle (h : s.Kept i n t) (v : Nat) (f : Vehicle → Vehicle) : s.Kept i n (t.modVehicle v f) :=
  h.of_writes rfl rfl rfl rfl

theorem requestPolesDown (h : s.Kept i n t) (v k : Nat) : s.Kept i n (t.requestPolesDown v k) := by
  have asked : t.Edits Part.OfAsking (t.requestPolesDown v k) := .requestPolesDown trivial trivial .refl v k
  exact h.of_writes (Vector.ext fun j hj => asked.sec (i := ⟨j, hj⟩) id id) (asked.station id id) (asked.urgent id id id)
    (asked.incidents id id)

/-- R84: a record that is not closed is not evicted. -/
theorem addRecord (h : s.Kept i n t) (r : Incident) : s.Kept i n { t with incidents := t.incidents.add r } := by
  refine h.trans ⟨rfl, rfl, rfl, rfl, fun y hy live => ⟨y, ?_, .refl n y⟩⟩
  refine List.mem_append_left _ ?_
  unfold IncidentList.evict
  split
  · exact hy
  split
  · exact (List.mem_eraseP_of_neg (by simpa using live)).mpr hy
  · exact hy

/-- R8: the sequence phase stands, so no gate is judged where none was. -/
theorem not_gating (h : s.Kept i n t) (idle : (s.sec i).rcl.phase ≠ .gating) : (t.sec i).rcl.phase ≠ .gating := by
  rwa [h.rcl]

end State.Kept

section
variable {s : State} {e : Ev} {i : SecNo} {n : Nat}

theorem State.Kept.mod (h : s.Kept i n e.s) {f : State → State} (k : e.s.Kept i n (f e.s)) : s.Kept i n (e.mod f).s :=
  h.trans k

theorem State.Kept.addIncident (h : s.Kept i n e.s) (r : Incident) : s.Kept i n (e.addIncident r).s := by
  rw [Ev.addIncident_s]
  exact h.addRecord r

/-- R69: a gate is judged of a GATING section alone. -/
theorem State.Kept.reevaluateIf (h : s.Kept i n e.s) (idle : (s.sec i).rcl.phase ≠ .gating) (c : Prop) [Decidable c]
    (g : Gate) : s.Kept i n (if c then e.reevaluate i g else e).s := by
  rw [Ev.reevaluate_of_not_gating (h.not_gating idle), ite_self]
  exact h

/-- R90: a vehicle is attached to the record, which grows. -/
theorem State.Kept.attach (h : s.Kept i n e.s) (idle : (s.sec i).rcl.phase ≠ .gating) (v : Nat) (f : FaultCode)
    (located : Bool) : s.Kept i n (e.attach i n v f located).s := by
  unfold Ev.attach
  split
  · exact h
  · dsimp only
    rw [Ev.reportIncident_s]
    refine State.Kept.reevaluateIf (State.Kept.mod ?_ (.requestPolesDown .refl v n)) idle _ _
    split
    · refine h.mod (.modVehicle (.modRecord .refl fun y hy => ?_) _ _)
      exact ⟨rfl, fun other => absurd hy other⟩
    · refine h.mod (.modRecord .refl fun y hy => ?_)
      exact ⟨rfl, fun other => absurd hy other⟩

theorem State.Kept.recordClosed (h : s.Kept i n e.s) (k : IncKind) (obj : IncObject) (x : Option Detail)
    (c : Option Captured) : s.Kept i n (e.recordClosed k obj x c).s := h.addIncident _

theorem State.Kept.checkUnexplained (h : s.Kept i n e.s) (current : Int) (saturated : Bool) :
    s.Kept i n (e.checkUnexplained i current saturated).s := by
  unfold Ev.checkUnexplained
  dsimp only
  split
  · exact h.mod (.modFeed .refl _)
  split
  · exact State.Kept.recordClosed (State.Kept.mod (h.mod (.modFeed .refl _)) (.modFeed .refl _)) _ _ _ _
  · exact h.mod (.modFeed .refl _)

theorem State.Kept.checkReverse (h : s.Kept i n e.s) (current : Int) (saturated : Bool) (credit : Nat) :
    s.Kept i n (e.checkReverse i current saturated credit).s := by
  unfold Ev.checkReverse
  dsimp only
  split
  · exact h.mod (.modFeed .refl _)
  split
  · exact h.mod (.modFeed .refl _)
  split
  · exact h
  split
  · exact State.Kept.recordClosed (State.Kept.mod (h.mod (.modFeed .refl _)) (.modFeed .refl _)) _ _ _ _
  · exact h.mod (.modFeed .refl _)

/-! ### The trip -/

/-- R5, R7, R8: the trip is ordered and the section TRIPPING. -/
def State.tripping (s : State) (i : SecNo) (k : TripKind) : State :=
  (((s.queueOrder (.sec i) .trip).assertLine i).setPending i (some (s.order .trip .protection (some k) true))).setSec i
    .tripping k.reason

/-- R8: the record a trip opens. -/
def State.tripRecord (s : State) (i : SecNo) (k : TripKind) (c : Option Captured) : Incident :=
  { number := s.incidents.next, kind := k.incKind, object := .sec i, detail := none, opened := s.stamp, state := .opened,
    outcome := none, closed := none, window := some ⟨s.partTime, s.settings.corrWindow * 100⟩, captured := c,
    tripCount := 1, lastTrip := some (k, s.partTime), shots := [], vehicles := [], more := false }

/-- R8: an incident is opened for a trip. -/
def State.opens (s : State) (i : SecNo) (k : TripKind) (c : Option Captured) : State :=
  ({ s with incidents := s.incidents.add (s.tripRecord i k c) } : State).modCtl i fun x =>
    { x with incident := some s.incidents.next }

/-- R8: the trip with its incident opened. -/
def State.tripOpened (s : State) (i : SecNo) (k : TripKind) (c : Option Captured) : State := (s.tripping i k).opens i k c

/-- R8: the control record of a section that protection has tripped from outside a sequence. -/
def State.tripCtl (s : State) (i : SecNo) (k : TripKind) : SectionCtl :=
  { (s.sec i).ctl with
    state := .tripping, reason := k.reason, tripLine := true, incident := some s.incidents.next,
    pending := some (s.order .trip .protection (some k) true) }

variable {k : TripKind}

/-- R7: the trip is confirmed within 200 ms. -/
theorem State.tripCtl_eq : s.tripCtl i k = { (s.sec i).ctl with
    state := .tripping, reason := k.reason, tripLine := true, incident := some s.incidents.next,
    pending := some ⟨.trip, .protection, some k, true, ⟨s.partTime, 200⟩⟩ } := rfl

theorem State.tripping_incidents (mode : s.mode ≠ .observe) : (s.tripping i k).incidents = s.incidents := by
  rw [State.tripping, State.queueOrder_of_not_observe mode, State.assertLine, if_neg (by exact mode)]
  rfl

theorem State.tripping_moves (mode : s.mode ≠ .observe) : s.Moves (s.tripping i k) i
    { (s.sec i).ctl with
      state := .tripping, reason := k.reason, tripLine := true,
      pending := some (s.order .trip .protection (some k) true) } (s.sec i).rcl :=
  ((((State.Moves.start s i).queueOrder (.sec i) .trip).assertLine (by
    rw [State.queueOrder_of_not_observe mode]
    exact mode)).setPending _).setSec _ _

theorem State.tripOpened_moves (mode : s.mode ≠ .observe) (c : Option Captured) :
    s.Moves (s.tripOpened i k c) i (s.tripCtl i k) (s.sec i).rcl := by
  have moves := ((State.tripping_moves (s := s) (i := i) (k := k) mode).setIncidents
    ((s.tripping i k).incidents.add ((s.tripping i k).tripRecord i k c))).modCtl fun x =>
      { x with incident := some (s.tripping i k).incidents.next }
  rw [State.tripCtl, ← State.tripping_incidents (i := i) (k := k) mode]
  exact moves

/-- R8, R89: what the look back attaches to the record it opens grows that record alone. -/
theorem Ev.openTrip_kept (idle : (e.s.sec i).rcl.phase ≠ .gating) (k : TripKind) (c : Option Captured) :
    (e.s.opens i k c).Kept i e.s.incidents.next (e.openTrip i k c).s := by
  have whole : e.openTrip i k c = (((e.addIncident (e.s.tripRecord i k c)).mod fun s => s.modCtl i fun x =>
      { x with incident := some e.s.incidents.next }).s.lookBack i).foldl
      (fun d b => d.attach i e.s.incidents.next b.vehicle b.fault b.located)
      ((e.addIncident (e.s.tripRecord i k c)).mod fun s => s.modCtl i fun x =>
        { x with incident := some e.s.incidents.next }) := rfl
  have opened : ((e.addIncident (e.s.tripRecord i k c)).mod fun s => s.modCtl i fun x =>
      { x with incident := some e.s.incidents.next }).s = e.s.opens i k c :=
    congrArg (fun s : State => s.modCtl i fun x => { x with incident := some e.s.incidents.next }) (Ev.addIncident_s e _)
  have calm : ((e.s.opens i k c).sec i).rcl.phase ≠ .gating := by
    rw [State.opens, State.sec_modCtl_self]
    exact idle
  rw [whole]
  exact List.foldlRecOn (motive := fun d : Ev => (e.s.opens i k c).Kept i e.s.incidents.next d.s) _ _
    (opened ▸ .refl) fun d kept b _ => kept.attach calm b.vehicle b.fault b.located

theorem Ev.tripInReclaim_of_idle (h : (e.s.sec i).rcl.phase = .idle) : e.tripInReclaim i = e := by
  rw [Ev.tripInReclaim, h]
  rfl

/-- R8: a trip from protection, of a section that is in no sequence and holds no OPEN or HELD incident, opens one. -/
theorem Ev.tripDecision_kept {d : Decision} (mode : e.s.mode ≠ .observe) (active : (e.s.secEntry i).active = true)
    (live : (e.s.sec i).ctl.state = .live) (idle : (e.s.sec i).rcl.phase = .idle) (none : e.s.liveIncident i = none) :
    (e.s.tripOpened i d.kind (some d.captured)).Kept i e.s.incidents.next (e.tripDecision i d).s := by
  have moves := State.tripping_moves (s := e.s) (i := i) (k := d.kind) mode
  have taken : (e.s.mode != .observe && (e.s.secEntry i).active && (e.s.sec i).ctl.state.trippable) = true := by
    rw [live, active]
    simpa [SecState.trippable] using mode
  have fresh : (e.s.sec i).ctl.reclosing = false := by simp [SectionCtl.reclosing, live]
  have same : (e.s.tripping i d.kind).incidents = e.s.incidents := State.tripping_incidents mode
  have recorded : (e.mod fun s => s.tripping i d.kind).recordTrip i d.kind (some d.captured) =
      (e.mod fun s => s.tripping i d.kind).openTrip i d.kind (some d.captured) := by
    rw [Ev.recordTrip, show (e.mod fun s => s.tripping i d.kind).s.liveIncident i = .none from
      (moves.liveIncident rfl same).trans none]
  have opens : e.tripDecision i d =
      ((e.mod fun s => s.tripping i d.kind).openTrip i d.kind (some d.captured)).tripInReclaim i := by
    have whole : e.tripDecision i d = if (e.s.mode != .observe && (e.s.secEntry i).active &&
          (e.s.sec i).ctl.state.trippable) = true then
        if (e.s.sec i).ctl.reclosing = true
        then ((e.mod fun s => s.tripping i d.kind).recordTrip i d.kind (some d.captured)).retripped i
        else ((e.mod fun s => s.tripping i d.kind).recordTrip i d.kind (some d.captured)).tripInReclaim i
      else e := rfl
    rw [whole, if_pos taken, fresh, if_neg nofun, recorded]
  have began : ((e.s.tripping i d.kind).sec i).rcl.phase = .idle := by rw [moves.rcl, idle]
  have kept := (e.mod fun s => s.tripping i d.kind).openTrip_kept (i := i) (by rw [Ev.mod, began]; nofun) d.kind
    (some d.captured)
  rw [opens, Ev.tripInReclaim_of_idle]
  · exact same ▸ kept
  · rw [kept.rcl]
    exact (congrArg Reclose.phase (State.tripOpened_moves (k := d.kind) mode (some d.captured)).rcl).trans idle

/-- R5, R7: the order of a trip. -/
theorem State.tripOpened_urgent (mode : s.mode ≠ .observe) (c : Option Captured) :
    (s.tripOpened i k c).fieldPort.urgent = pushUrgent s.fieldPort.urgent
      ⟨.sec i, .trip, s.telegram (s.secEntry i).breaker kBreakerTrip []⟩ := by
  rw [State.tripOpened, State.tripping, State.queueOrder_of_not_observe mode, State.assertLine, if_neg (by exact mode)]
  rfl

theorem State.tripOpened_station (mode : s.mode ≠ .observe) (c : Option Captured) :
    (s.tripOpened i k c).station = s.station := by
  rw [State.tripOpened, State.tripping, State.queueOrder_of_not_observe mode, State.assertLine, if_neg (by exact mode)]
  rfl

/-- R84, R90: the record that a trip opens is in the list at the end, grown by the vehicles attached to it. -/
theorem State.Kept.opened {t : State} {c : Option Captured} (mode : s.mode ≠ .observe)
    (h : (s.tripOpened i k c).Kept i s.incidents.next t) :
    ∃ x ∈ t.incidents.records, (s.tripRecord i k c).Grown s.incidents.next x := by
  have same : (s.tripping i k).tripRecord i k c = s.tripRecord i k c := by
    rw [State.tripping, State.queueOrder_of_not_observe mode, State.assertLine, if_neg (by exact mode)]
    rfl
  exact same ▸ h.records _ (List.mem_append_right _ (List.mem_singleton.mpr rfl)) nofun

/-- R84: a record that is not closed stands, if it has not the new number. -/
theorem State.Kept.old {t : State} {c : Option Captured} (mode : s.mode ≠ .observe)
    (h : (s.tripOpened i k c).Kept i s.incidents.next t) {y : Incident} (hy : y ∈ s.incidents.records)
    (live : y.state ≠ .closed) (hn : y.number ≠ s.incidents.next) : y ∈ t.incidents.records := by
  obtain ⟨x, hx, grown⟩ := ((State.Kept.refl (s := s.tripping i k) (i := i) (n := s.incidents.next)).addRecord
    ((s.tripping i k).tripRecord i k c)).records y ((State.tripping_incidents mode).symm ▸ hy) live
  obtain ⟨z, hz, grown'⟩ := h.records x hx (grown.other hn ▸ live)
  have same := (grown.trans grown').other hn
  exact same ▸ hz

/-! ### The sample that trips -/

/-- R32: outside a dead time the half-limit notice is recorded alone. -/
theorem Ev.tellCrossing_of_idle (idle : (e.s.sec i).rcl.phase = .idle) (before : Nat) :
    ∃ f : Feeder → Feeder, e.tellCrossing i before = e.mod fun s => s.modFeed i f := by
  unfold Ev.tellCrossing
  dsimp only
  split
  · refine ⟨id, congrArg (fun s : State => ({ e with s := s } : Ev)) (State.modSec_same (f := fun x => x) rfl).symm⟩
  · refine ⟨_, Ev.reevaluate_of_not_gating ?_ _⟩
    rw [Ev.mod, State.modFeed, State.sec_modSec_self]
    exact idle ▸ nofun

/-- R28: a sample of another time is no duplicate. -/
theorem Feeder.interval_ne_duplicate {f : Feeder} {tick : Tick} (h : ∀ ip tp, f.prev = some (ip, tp) → tp ≠ tick) :
    f.interval tick ≠ .duplicate := by
  unfold Feeder.interval
  split
  case h_1 => nofun
  case h_2 ip tp hp =>
    have other : ¬(tick - tp).toNat = 0 := by
      have := h ip tp hp
      bv_omega
    dsimp only
    rw [if_neg other]
    split
    · nofun
    · nofun

theorem State.Moves.modFeed {t : State} {c : SectionCtl} {q : Reclose} (h : s.Moves t i c q) (f : Feeder → Feeder) :
    s.Moves (t.modFeed i f) i c q :=
  State.Moves.modSec (g := id) (k := id) (f := fun x => { x with feed := f x.feed }) h (fun _ => rfl) (fun _ => rfl)
    fun _ => rfl

/-- R28, R36: up to the record of a sample only the section's source and feeder records change. -/
theorem State.Moves.recorded {c : SectionCtl} {q : Reclose} (h : s.Moves e.s i c q) (r : SourceRole) (tick : Tick)
    (raw : Int) : s.Moves ((e.sourced i r tick).recorded i tick raw).s i c q := by
  have sourced : s.Moves (e.sourced i r tick).s i c q := by
    refine State.Moves.modSec (g := id) (k := id) h (fun x => ?_) (fun x => ?_) (fun x => Sec.setSource_sel _ _ _)
    · cases r <;> rfl
    · cases r <;> rfl
  exact sourced.modFeed fun f =>
    (f.compute ((e.sourced i r tick).s.setOf i) tick (clampCurrent raw) (clampCurrent raw != raw) (f.interval tick)).1

/-- R31, R37: what a sample at or above Imax does. -/
theorem Ev.compute_instant {tick : Tick} {raw : Int} (fresh : (e.s.sec i).feed.interval tick ≠ .duplicate)
    (reached : (e.s.setOf i).imax ≤ (clampCurrent raw).natAbs) :
    ∃ c : Captured, c.current = some (clampCurrent raw) ∧ c.h = ((e.recorded i tick raw).s.sec i).feed.h ∧
      c.saturated = (clampCurrent raw != raw) ∧
      e.compute i tick raw = ((((e.recorded i tick raw).tellCrossing i (e.s.sec i).feed.h).giveDecision i
        ⟨.instant, c⟩).checkUnexplained i (clampCurrent raw) (clampCurrent raw != raw)).checkReverse i (clampCurrent raw)
          (clampCurrent raw != raw) ((e.s.sec i).feed.interval tick).credit := by
  let r := (e.s.sec i).feed.compute (e.s.setOf i) tick (clampCurrent raw) (clampCurrent raw != raw)
    ((e.s.sec i).feed.interval tick)
  have thermal : r.1.h = ((e.recorded i tick raw).s.sec i).feed.h := by
    rw [Ev.recorded, Ev.mod, State.modFeed, State.sec_modSec_self]
  have whole : e.compute i tick raw =
      if (e.s.sec i).feed.interval tick = .duplicate
      then e.mod fun s => s.modFeed i fun f => { f with dup := inc16 f.dup }
      else ((match decisionKind (e.s.setOf i) (clampCurrent raw) r.2.isSome r.1.h with
        | none => (e.recorded i tick raw).tellCrossing i (e.s.sec i).feed.h
        | some k => ((e.recorded i tick raw).tellCrossing i (e.s.sec i).feed.h).giveDecision i
          ⟨k, ⟨some (clampCurrent raw), r.1.rise (clampCurrent raw) r.2, r.1.h, clampCurrent raw != raw⟩⟩).checkUnexplained
            i (clampCurrent raw) (clampCurrent raw != raw)).checkReverse i (clampCurrent raw) (clampCurrent raw != raw)
              ((e.s.sec i).feed.interval tick).credit := rfl
  exact ⟨⟨some (clampCurrent raw), r.1.rise (clampCurrent raw) r.2, r.1.h, clampCurrent raw != raw⟩, rfl, thermal, rfl, by
    rw [whole, if_neg fresh, decisionKind, if_pos reached]⟩

/-- R7, R8: a trip given in an event that has changed no other section ends as it left the state. -/
theorem State.Kept.ends {t : State} {c : Option Captured} (mode : t.mode ≠ .observe)
    (h : (t.tripOpened i k c).Kept i n e.s) (old : e.old = s) (modeRec : e.s.modeRec = s.modeRec)
    (others : s.sameSecsBut e.s i) : e.s.EndsAs e.finish := by
  have settled : s.BlindSettled e.s := .of_sec (by rw [State.mode, modeRec]; rfl) others (.inr (by
    rw [h.ctl, (State.tripOpened_moves mode c).ctl]
    rfl))
  exact Ev.finish_endsAs (settled.blindPass rfl old)

/-- R28, R32: a sample outside a dead time has changed nothing but the sections' measurement records up to its decision. -/
theorem Ev.tellCrossing_recorded (idle : (s.sec i).rcl.phase = .idle) (r : SourceRole) (tick : Tick) (raw : Int)
    (before : Nat) :
    ∃ v, (((Ev.start s).sourced i r tick).recorded i tick raw).tellCrossing i before = Ev.between s (s.withSecs v) ∧
      s.Moves (s.withSecs v) i (s.sec i).ctl (s.sec i).rcl := by
  have source := (State.Moves.start s i).recorded (e := Ev.start s) r tick raw
  obtain ⟨f, told⟩ := Ev.tellCrossing_of_idle (e := ((Ev.start s).sourced i r tick).recorded i tick raw)
    (by rw [source.rcl, idle]) before
  exact ⟨_, told, source.modFeed f⟩

/-- R8: what a trip from protection that opens an incident has done at the end of its event, whatever else of the sections'
records the event wrote before it. -/
structure State.Trips (s : State) (i : SecNo) (k : TripKind) (c : Option Captured) (u : State) : Prop where
  ctl : (u.sec i).ctl = s.tripCtl i k
  opened : ∃ x ∈ u.incidents.records, (s.tripRecord i k c).Grown s.incidents.next x
  old : ∀ y ∈ s.incidents.records, y.state ≠ .closed → y.number ≠ s.incidents.next → y ∈ u.incidents.records
  urgent : u.fieldPort.urgent = pushUrgent s.fieldPort.urgent
    ⟨.sec i, .trip, s.telegram (s.secEntry i).breaker kBreakerTrip []⟩
  station : u.station = s.station

theorem State.Kept.trips {secs : Vector Sec 8} {c : Option Captured} {v u : State} (mode : s.mode ≠ .observe)
    (same : ((s.withSecs secs).sec i).ctl = (s.sec i).ctl)
    (h : ((s.withSecs secs).tripOpened i k c).Kept i s.incidents.next v) (atEnd : v.EndsAs u) : s.Trips i k c u where
  ctl := by
    rw [atEnd.sec, h.ctl, (State.tripOpened_moves (s := s.withSecs secs) mode c).ctl, State.tripCtl, same]
    rfl
  opened := by
    rw [atEnd.incidents]
    exact State.Kept.opened (s := s.withSecs secs) mode h
  old y hy live other := by
    rw [atEnd.incidents]
    exact State.Kept.old (s := s.withSecs secs) mode h hy live other
  urgent := atEnd.urgent.trans (h.urgent.trans (State.tripOpened_urgent (s := s.withSecs secs) mode c))
  station := atEnd.station.trans (h.station.trans (State.tripOpened_station (s := s.withSecs secs) mode c))

end

end Sys2Proof.Machine

section

open Sys2Proof Sys2Proof.Machine

/-- Settles O27: the trip opens the record before the alarm checks, which leave it (`State.Kept`). -/
theorem sampleAtImaxTripsTheSection : Obligations.SampleAtImaxTripsTheSection := by
  unfold Obligations.SampleAtImaxTripsTheSection
  intro i t1 t0 c1 c0 s working mode active primary live idle fresh reached none
  let tick : Tick := t1 ++ t0
  let raw : Int := (c1 ++ c0).toInt
  let e := (Ev.start s).sourced i .primary tick
  have feed : (e.s.sec i).feed = (s.sec i).feed := (Ev.start s).sourced_feed i .primary tick
  have fresh' : (e.s.sec i).feed.interval tick ≠ .duplicate := feed ▸ Feeder.interval_ne_duplicate fresh
  obtain ⟨v, told, moves⟩ := Ev.tellCrossing_recorded idle .primary tick raw (e.s.sec i).feed.h
  obtain ⟨c, current, thermal, saturated, computed⟩ := Ev.compute_instant (e := e) fresh' (by
    rw [clampCurrent_eq]
    exact reached)
  rw [told] at computed
  have tripped : (Ev.between s (s.withSecs v)).giveDecision i ⟨.instant, c⟩ =
      (Ev.between s (s.withSecs v)).tripDecision i ⟨.instant, c⟩ := if_neg mode
  have kept : ((s.withSecs v).tripOpened i .instant (some c)).Kept i s.incidents.next (e.compute i tick raw).s := by
    rw [computed, tripped]
    have decided := Ev.tripDecision_kept (e := Ev.between s (s.withSecs v)) (i := i) (d := ⟨.instant, c⟩) mode active
      (by rw [Ev.between_s, moves.ctl, live]) (by rw [Ev.between_s, moves.rcl, idle]) ((moves.liveIncident rfl rfl).trans none)
    exact (decided.checkUnexplained _ _).checkReverse _ _ _
  have source := (State.Moves.start s i).recorded (e := Ev.start s) .primary tick raw
  have stands := e.compute_feedStands i tick raw fresh'
  have others : s.sameSecsBut (e.compute i tick raw).s i := source.others.trans stands.state.others
  have atEnd := State.Kept.ends (s := s) (t := s.withSecs v) mode kept stands.old stands.state.modeRec others
  have trips := State.Kept.trips (s := s) (secs := v) mode moves.ctl kept atEnd
  have done := exec_sample_of_active s i .primary t1 t0 c1 c0 working active (by rw [Sec.activeSource, primary]) nofun
  refine ⟨(e.compute i tick raw).finish, done,
    trips.ctl.trans State.tripCtl_eq, ?_, trips.old, trips.urgent, others.trans fun j _ => atEnd.sec j,
    trips.station, atEnd.background.trans stands.state.background⟩
  obtain ⟨x, hx, grown⟩ := trips.opened
  have feed' : c.h = (((e.compute i tick raw).finish).sec i).feed.h := by rw [atEnd.sec, stands.state.thermal, thermal]
  exact ⟨x, c, hx, grown.number, (congrArg Incident.kind grown.rest :), (congrArg Incident.object grown.rest :),
    (congrArg Incident.state grown.rest :), (congrArg Incident.opened grown.rest :), (congrArg Incident.outcome grown.rest :),
    (congrArg Incident.window grown.rest :), (congrArg Incident.tripCount grown.rest :),
    (congrArg Incident.lastTrip grown.rest :), (congrArg Incident.shots grown.rest :),
    (congrArg Incident.captured grown.rest :), by rw [current, clampCurrent_eq], feed', by
      rw [saturated, clampCurrent_eq]
      exact Bool.eq_iff_iff.mpr (by rw [bne_iff_ne, decide_eq_true_iff])⟩

end

/-! SUPPORT. The stale expiry of a source and the blind expiry. -/

namespace Sys2Proof.Machine

open Sys2Proof

section
variable {s t : State} {e : Ev} {i : SecNo}

/-- R131, R137: a change of a section's measurement records. -/
theorem State.endStands_modSec (s : State) (i : SecNo) {f : Sec → Sec} (ctl : ∀ x, (f x).ctl = x.ctl)
    (rcl : ∀ x, (f x).rcl = x.rcl) : s.EndStands (s.modSec i f) where
  modeRec := rfl
  tables := rfl
  station := rfl
  points := rfl
  ctl j := by
    rw [State.sec_modSec]
    split
    case isTrue => rw [ctl]
    case isFalse => rfl
  shots j := by
    rw [State.sec_modSec]
    split
    case isTrue => rw [rcl]
    case isFalse => rfl

theorem State.endStands_modSel (s : State) (i : SecNo) (f : Selector → Selector) : s.EndStands (s.modSel i f) :=
  s.endStands_modSec i (f := fun x => { x with sel := f x.sel }) (fun _ => rfl) fun _ => rfl

theorem Sec.setSource_ctl (x : Sec) (r : SourceRole) (v : Source) : (x.setSource r v).ctl = x.ctl := by cases r <;> rfl
theorem Sec.setSource_rcl (x : Sec) (r : SourceRole) (v : Source) : (x.setSource r v).rcl = x.rcl := by cases r <;> rfl

/-- R53, R54: the state rules after a source has gone stale look at the active one alone. -/
theorem Ev.afterStale_of_inactive {r : SourceRole} (h : (e.s.sec i).activeSource ≠ some r) : e.afterStale i r = e := by
  unfold Ev.afterStale
  unfold Sec.activeSource at h
  dsimp only
  split
  case h_1 inUse => exact absurd (by rw [inUse]) h
  case h_2 inUse => exact absurd (by rw [inUse]) h
  case h_3 => rfl

/-- R56, R57: what a section's records lose with its sight. -/
def State.sightLost (s : State) (i : SecNo) : State :=
  ((s.modSel i fun x => { x with state := .blind, changes := inc16 x.changes }).modFeed i Feeder.sourceChanged).modSel
    i fun x => { x with blinds := inc16 x.blinds }

/-- R56, R57: a section that is in no dead time goes BLIND. -/
theorem Ev.setSelector_blind (sighted : (e.s.sec i).sel.state ≠ .blind) (calm : (e.s.sec i).rcl.phase ≠ .gating) :
    e.setSelector i .blind = ((({ e with selectorReports := e.selectorReports ++ [i] } : Ev).mod fun s =>
      s.sightLost i).addIncident (e.s.closedRecord .blindSection (.sec i) none none)).mod fun s => s.beginBlind i := by
  have lost : (e.s.modSel i fun x =>
      { (if x.state = .blind then x.sighted else x) with state := .blind, changes := inc16 x.changes }) =
      e.s.modSel i fun x => { x with state := .blind, changes := inc16 x.changes } := by
    refine State.modSec_congr ?_
    dsimp only
    rw [if_neg sighted]
  let d : Ev := { (e.mod fun s => (s.modSel i fun x => { x with state := .blind, changes := inc16 x.changes }).modFeed i
    Feeder.sourceChanged) with selectorReports := e.selectorReports ++ [i] }
  have phase : (d.s.sec i).rcl = (e.s.sec i).rcl := by simp [d, Ev.mod, State.modFeed, State.modSel]
  have still : d.reevaluate i .source = d := Ev.reevaluate_of_not_gating (by rw [phase]; exact calm) _
  have whole : e.setSelector i .blind = if (e.s.sec i).sel.state = .blind then e else
      (((({ (e.mod fun s => (s.modSel i fun x =>
          { (if x.state = .blind then x.sighted else x) with state := .blind, changes := inc16 x.changes }).modFeed i
            Feeder.sourceChanged) with selectorReports := e.selectorReports ++ [i] } : Ev).reevaluate i .source).mod fun s =>
        s.modSel i fun x => { x with blinds := inc16 x.blinds }).recordClosed .blindSection (.sec i) none none).mod fun s =>
          s.beginBlind i := rfl
  have begun : (e.mod fun s => (s.modSel i fun x =>
      { (if x.state = .blind then x.sighted else x) with state := .blind, changes := inc16 x.changes }).modFeed i
        Feeder.sourceChanged) = e.mod fun s => (s.modSel i fun x =>
      { x with state := .blind, changes := inc16 x.changes }).modFeed i Feeder.sourceChanged :=
    congrArg (fun t : State => e.mod fun _ => t.modFeed i Feeder.sourceChanged) lost
  rw [whole, if_neg sighted, begun, still]
  rfl

/-- R51, R53, R57: the primary source of a section goes stale, and the section is BLIND. -/
def State.wentBlind (s : State) (i : SecNo) : State :=
  ({ (s.modSec i fun x => x.setSource .primary coldSource).sightLost i with
     incidents := s.incidents.add (s.closedRecord .blindSection (.sec i) none none) } : State).beginBlind i

theorem State.sightLost_eq : s.sightLost i = s.modSec i fun x => { x with
    feed := x.feed.sourceChanged,
    sel := { x.sel with state := .blind, changes := inc16 x.sel.changes, blinds := inc16 x.sel.blinds } } := by
  rw [State.sightLost, State.modSel, State.modSel, State.modFeed, State.modSec_modSec, State.modSec_modSec]

theorem State.beginBlind_sec {x : Sec} (h : s.sec i = x) : (s.beginBlind i).sec i = { x with sel := { x.sel with
    blindSince := some s.partTime, overdue := false,
    blindExpiry := if (s.secEntry i).blindTrip then some ⟨s.partTime, (s.secEntry i).blindTime * 100⟩ else none } } := by
  rw [State.beginBlind, State.modSel, State.sec_modSec_self, h]

theorem State.wentBlind_sec : (s.wentBlind i).sec i = { s.sec i with
    prim := coldSource, feed := (s.sec i).feed.sourceChanged,
    sel := { (s.sec i).sel with
      state := .blind, changes := inc16 (s.sec i).sel.changes, blinds := inc16 (s.sec i).sel.blinds,
      blindSince := some s.partTime, overdue := false,
      blindExpiry := if (s.secEntry i).blindTrip then some ⟨s.partTime, (s.secEntry i).blindTime * 100⟩ else none } } := by
  have lost : ((s.modSec i fun x => x.setSource .primary coldSource).sightLost i).sec i = { s.sec i with
      prim := coldSource, feed := (s.sec i).feed.sourceChanged,
      sel := { (s.sec i).sel with
        state := .blind, changes := inc16 (s.sec i).sel.changes, blinds := inc16 (s.sec i).sel.blinds } } := by
    rw [State.sightLost_eq, State.modSec_modSec, State.sec_modSec_self]
    rfl
  exact State.beginBlind_sec lost

theorem State.wentBlind_others : s.sameSecsBut (s.wentBlind i) i := by
  have lost : s.sameSecsBut ((s.modSec i fun x => x.setSource .primary coldSource).sightLost i) i := by
    rw [State.sightLost_eq, State.modSec_modSec]
    exact s.sameSecsBut_modSec i _
  exact lost.trans fun j hj => State.sec_modSec_of_ne _ hj.symm _

/-- R53, R57: the event in which the only source of a section goes stale. -/
theorem Ev.afterStale_primary (primary : (e.s.sec i).sel.state = .usingPrimary)
    (alone : (e.s.secEntry i).secondary = false) :
    e.afterStale i .primary = e.setSelector i .blind := by
  have whole : e.afterStale i .primary = match (e.s.sec i).sel.state, SourceRole.primary with
    | .usingPrimary, .primary => e.setSelector i
      (if ((e.s.secEntry i).secondary && (e.s.sec i).seco.run == settleCount) = true then .usingSecondary else .blind)
    | .usingSecondary, .secondary => e.setSelector i (if (e.s.sec i).prim.run = settleCount then .usingPrimary else .blind)
    | _, _ => e := rfl
  rw [whole, primary, alone]
  rfl

/-- R51, R53, R57: the event in which the primary source of a section that has no other goes stale. -/
theorem Ev.staleExpiry_wentBlind (due : dueNow s.partTime (s.sec i).prim.stale = true)
    (primary : (s.sec i).sel.state = .usingPrimary) (alone : (s.secEntry i).secondary = false)
    (calm : (s.sec i).rcl.phase ≠ .gating) : ∃ d, (Ev.start s).staleExpiry i .primary = d ∧ d.s = s.wentBlind i ∧
      d.old = s ∧ d.serve = [] := by
  let e := Ev.between s (s.modSec i fun x => x.setSource .primary coldSource)
  have stale : (Ev.start s).staleExpiry i .primary = e.afterStale i .primary := if_pos due
  have sel : (e.s.sec i).sel.state = .usingPrimary := by
    rw [Ev.between_s, State.sec_modSec_self, Sec.setSource_sel, primary]
  have rcl : (e.s.sec i).rcl = (s.sec i).rcl := by rw [Ev.between_s, State.sec_modSec_self, Sec.setSource_rcl]
  have lost := Ev.setSelector_blind (e := e) (i := i) (sel ▸ nofun) (rcl ▸ calm)
  rw [Ev.afterStale_primary sel alone, lost] at stale
  exact ⟨_, stale, congrArg (fun t : State => t.beginBlind i) (Ev.addIncident_s _ _), Ev.addIncident_old _ _,
    Ev.addIncident_serve _ _⟩

/-- R59: the blind expiry is taken. -/
def State.blindOverdue (s : State) (i : SecNo) : State := s.modSel i fun x => { x with blindExpiry := none, overdue := true }

theorem Ev.takeBlindExpiry_eq : e.takeBlindExpiry i = (e.mod fun s => s.blindOverdue i).blindDecision i := rfl

theorem State.blindOverdue_ctl : ((s.blindOverdue i).sec i).ctl = (s.sec i).ctl := by
  rw [State.blindOverdue, State.modSel, State.sec_modSec_self]

theorem State.blindOverdue_rcl : ((s.blindOverdue i).sec i).rcl = (s.sec i).rcl := by
  rw [State.blindOverdue, State.modSel, State.sec_modSec_self]

theorem State.blindOverdue_sel :
    ((s.blindOverdue i).sec i).sel = { (s.sec i).sel with blindExpiry := none, overdue := true } := by
  rw [State.blindOverdue, State.modSel, State.sec_modSec_self]

/-- R59: the BLIND decision of a section that is neither LIVE nor moving to it is not given. -/
theorem Ev.blindDecision_of_resting (h : (e.s.sec i).ctl.state.trippable = false) : e.blindDecision i = e := by
  rw [Ev.blindDecision, h]
  rfl

end

end Sys2Proof.Machine

section

open Sys2Proof Sys2Proof.Machine

/-- Settles O28: a stale or blind expiry changes measurement records alone, but for the BLIND decision of a LIVE section,
which is a trip from protection. -/
theorem staleAndBlindExpiries : Obligations.StaleAndBlindExpiries := by
  unfold Obligations.StaleAndBlindExpiries
  intro i s up told
  refine ⟨fun r due other => ?_, fun due primary alone calm => ?_, fun blind due resting => ?_,
    fun blind due live mode active idle none => ?_⟩
  · refine (s.endStands_modSec i (fun x => x.setSource_ctl r coldSource) fun x => x.setSource_rcl r coldSource).event
      (f := fun e => e.staleExpiry i r) up told ?_
    have stale : (Ev.start s).staleExpiry i r =
      (Ev.between s (s.modSec i fun x => x.setSource r coldSource)).afterStale i r := if_pos due
    rw [stale, Ev.afterStale_of_inactive]
    simpa using other
  · have moves (j : SecNo) : ((s.wentBlind i).sec j).ctl = (s.sec j).ctl := by
      by_cases own : j = i
      · rw [own, State.wentBlind_sec]
      · rw [State.wentBlind_others j own]
    obtain ⟨d, stale, state, old, serve⟩ := Ev.staleExpiry_wentBlind due primary alone calm
    have run := State.event_of_up (f := fun e => e.staleExpiry i .primary) up
    rw [stale] at run
    have calmly : s.BlindSettled (s.wentBlind i) := ⟨rfl, fun j => .inl (congrArg SectionCtl.state (moves j))⟩
    have settled : d.blindPass = d := State.BlindSettled.blindPass (s := s) (state ▸ calmly) rfl old
    have told' : d.s.SuppliesTold := state ▸ told.of_live rfl rfl fun j => by rw [moves j]
    have atEnd := Ev.finish_endsAs settled
    have points := Ev.finish_points settled told' serve
    rw [state] at atEnd points
    have own := (atEnd.sec i).trans State.wentBlind_sec
    exact ⟨d.finish, run, (congrArg Sec.prim own :), (congrArg Sec.sel own :), (congrArg Sec.feed own :),
      (congrArg Sec.ctl own :), State.wentBlind_others.trans fun j _ => atEnd.sec j,
      atEnd.incidents, atEnd.station, points, atEnd.background⟩
  · have same : s.EndStands (s.blindOverdue i) := s.endStands_modSel i _
    have expired : (Ev.start s).blindExpiry i = (Ev.start s).takeBlindExpiry i := if_pos ⟨blind, due⟩
    refine same.event (f := fun e => e.blindExpiry i) up told ?_
    rw [expired, Ev.takeBlindExpiry_eq, Ev.blindDecision_of_resting]
    · rfl
    · rw [← resting]
      exact congrArg (fun c : SectionCtl => c.state.trippable) State.blindOverdue_ctl
  · have expired : (Ev.start s).blindExpiry i = (Ev.between s (s.blindOverdue i)).blindDecision i := if_pos ⟨blind, due⟩
    have others : s.sameSecsBut (s.blindOverdue i) i := s.sameSecsBut_modSec i _
    have decided : (Ev.between s (s.blindOverdue i)).blindDecision i = (Ev.between s (s.blindOverdue i)).tripDecision i
        ⟨.blind, ⟨.none, .none, ((s.blindOverdue i).sec i).feed.h, false⟩⟩ := by
      have trippable : ((s.blindOverdue i).sec i).ctl.state.trippable = true := by rw [State.blindOverdue_ctl, live]; rfl
      exact (if_pos trippable).trans (if_neg mode)
    obtain ⟨c, hc⟩ : ∃ c : Captured, c = ⟨.none, .none, ((s.blindOverdue i).sec i).feed.h, false⟩ := ⟨_, rfl⟩
    rw [← hc] at decided
    have kept := Ev.tripDecision_kept (e := Ev.between s (s.blindOverdue i)) (i := i) (d := ⟨.blind, c⟩) mode active
      (by rw [Ev.between_s, State.blindOverdue_ctl, live]) (by rw [Ev.between_s, State.blindOverdue_rcl, idle])
      ((State.liveIncident_congr (congrArg SectionCtl.incident State.blindOverdue_ctl) rfl).trans none)
    have stands := (Ev.FeedStands.refl (i := i) (d := Ev.between s (s.blindOverdue i))).tripDecision ⟨.blind, c⟩
    obtain ⟨v, shape⟩ : ∃ v, s.blindOverdue i = s.withSecs v := ⟨_, rfl⟩
    have ctl := State.blindOverdue_ctl (s := s) (i := i)
    have sel := State.blindOverdue_sel (s := s) (i := i)
    rw [shape] at kept stands decided others ctl sel expired
    have atEnd := State.Kept.ends (s := s) (t := s.withSecs v) mode kept stands.old stands.state.modeRec
      (others.trans stands.state.others)
    have trips := State.Kept.trips (s := s) (secs := v) mode ctl kept atEnd
    have final : (((((Ev.between s (s.withSecs v)).tripDecision i ⟨.blind, c⟩).finish).sec i).sel) = _ :=
      (congrArg Sec.sel (atEnd.sec i)).trans (stands.state.selector.trans sel)
    refine ⟨((Ev.between s (s.withSecs v)).tripDecision i ⟨.blind, c⟩).finish, ?_, by rw [final], by rw [final],
      trips.ctl.trans State.tripCtl_eq, trips.urgent, (others.trans stands.state.others).trans fun j _ => atEnd.sec j,
      trips.station, atEnd.background.trans stands.state.background⟩
    have run := State.event_of_up (f := fun e => e.blindExpiry i) up
    rw [expired, decided] at run
    exact run

end

/-! SUPPORT. A BREAKER_CLOSE that a SUPERVISE entry decides. -/

namespace Sys2Proof.Machine

open Sys2Proof

section
variable {s : State} {i : SecNo} {k : Fin 64} {t : Telegram}

/-- R144: the destination is rewritten where the entry says so. -/
theorem Binding.rewritten_eq (b : Binding) (t : Telegram) : b.rewritten t = { t with dst := b.rewrite.getD t.dst } := by
  unfold Binding.rewritten
  split <;> rename_i hb <;> rw [hb] <;> rfl

/-- R147: a BREAKER_CLOSE of a section's breaker stands for SECTION_CLOSE. -/
theorem supervisedBy_sectionClose {b : Binding} (disposition : b.disposition = .supervise)
    (role : b.role = some (.breaker (.sec i))) (kind : t.kind = kBreakerClose) :
    supervisedBy b .control t = some (.sectionClose i) := by
  rw [supervisedBy, if_pos ⟨disposition, rfl⟩, role]
  exact if_pos kind

/-- R147: the order is taken where its entry decides and supervises it. -/
theorem exec_supervisedOrder {q : Equivalent} (working : s.Working) (decided : s.deciding .control t = some k)
    (supervised : supervisedBy s.tables.binding[k] .control t = some q) : exec (.supervisedOrder k t) s =
      .next (if s.mode = .observe then (Ev.start s).advise k q t else (Ev.start s).convert q t).finish := by
  have arm : exec (.supervisedOrder k t) s = s.delivery fun e =>
    if e.s.deciding .control t = some k ∧ (supervisedBy e.s.tables.binding[k] .control t).isSome = true then
      e.supervise k .control t
    else e := rfl
  have taken : (Ev.start s).s.deciding .control t = some k ∧
      (supervisedBy (Ev.start s).s.tables.binding[k] .control t).isSome = true :=
    ⟨decided, congrArg Option.isSome supervised⟩
  rw [arm, State.delivery_of_working working, if_pos taken, Ev.supervise, Ev.start_s, supervised]

theorem Equivalent.good_sectionClose (body : t.body = []) : (Equivalent.sectionClose i).bad t = false := by
  have judged : (Equivalent.sectionClose i).bad t = !t.body.isEmpty := rfl
  rw [judged, body]
  rfl

/-- R147, R148: a SECTION_CLOSE of an order without a body is carried out, and its result answered to the source. -/
theorem Ev.convert_sectionClose {e d : Ev} {r : Result} (body : t.body = []) (done : e.sectionClose i = (d, r)) :
    e.convert (.sectionClose i) t = (d.mod fun s => s.countConsumed .control).answer .control
      (d.s.telegram t.src kCommandResult [0, 0x01, r.code]) := by
  have good := Equivalent.good_sectionClose (i := i) body
  have carried : e.convert (.sectionClose i) t =
      ((if (Equivalent.sectionClose i).bad t then (e, .badArgument) else e.sectionClose i).1.mod fun s =>
        s.countConsumed .control).answer .control
        ((if (Equivalent.sectionClose i).bad t then (e, .badArgument) else e.sectionClose i).1.s.telegram t.src
          kCommandResult
          [0, 0x01, (if (Equivalent.sectionClose i).bad t then (e, .badArgument) else e.sectionClose i).2.code]) := rfl
  rw [carried, good, done]
  rfl

/-- R11: the checks of a section that is LIVE already. -/
theorem State.judgeClose_live (active : (s.secEntry i).active = true) (live : (s.sec i).ctl.state = .live) (modeToo : Bool) :
    s.judgeClose i modeToo = .done := by
  rw [State.judgeClose, active, live]
  rfl

/-- R11: the checks of a close that may be made. -/
theorem State.judgeClose_allowed (active : (s.secEntry i).active = true) (dead : (s.sec i).ctl.state = .dead)
    (mode : s.mode ≠ .observe) (allowed : s.closeAllowed i = true) : s.judgeClose i true = .accepted := by
  simp only [State.closeAllowed, Bool.and_eq_true, beq_iff_eq, bne_iff_ne] at allowed
  obtain ⟨⟨⟨closed, -⟩, seen⟩, half⟩ := allowed
  simp [State.judgeClose, active, dead, mode, closed, seen, half]

/-- R11, R148: the close is ordered, and the supervised order counted consumed. -/
def State.convertsClose (s : State) (i : SecNo) : State :=
  (((s.queueOrder (.sec i) .close).setPending i (some (s.order .close .command none false))).setSec i .closing
    .commandedClose).countConsumed .control

theorem State.convertsClose_moves : s.Moves (s.convertsClose i) i { (s.sec i).ctl with
    state := .closing, reason := .commandedClose, pending := some ⟨.close, .command, none, false, ⟨s.partTime, 1000⟩⟩ }
    (s.sec i).rcl :=
  State.Moves.of_secs ((((State.Moves.start s i).queueOrder (.sec i) .close).setPending
    (some (s.order .close .command none false))).setSec .closing .commandedClose) rfl

/-- R5, R11: where an order may be given, the close changes its section and the two ports. -/
theorem State.convertsClose_eq (mode : s.mode ≠ .observe) : s.convertsClose i =
    { s with
      secs := (s.convertsClose i).secs, controlPort := (s.convertsClose i).controlPort,
      fieldPort := { s.fieldPort with
        urgent := pushUrgent s.fieldPort.urgent ⟨.sec i, .close, s.telegram (s.secEntry i).breaker kBreakerClose []⟩ } } := by
  rw [State.convertsClose, State.queueOrder_of_not_observe mode]
  rfl

/-- R149: where SECTION_CLOSE would be answered DONE the order is forwarded without an advisory. -/
theorem Ev.advise_live {e : Ev} (active : (e.s.secEntry i).active = true) (live : (e.s.sec i).ctl.state = .live)
    (body : t.body = []) : e.advise k (.sectionClose i) t =
      e.mod fun s => s.forward .control (s.tables.binding[k].rewritten t) := by
  have good := Equivalent.good_sectionClose (i := i) body
  have judged : e.s.judge (.sectionClose i) = .done := State.judgeClose_live active live false
  unfold Ev.advise
  rw [good, judged]
  rfl

end

end Sys2Proof.Machine

section

open Sys2Proof Sys2Proof.Machine

/-- Settles O25: the order stands for SECTION_CLOSE, and its checks are those of a LIVE section or of one that may close. -/
theorem supervisedCloseIsConverted : Obligations.SupervisedCloseIsConverted := by
  unfold Obligations.SupervisedCloseIsConverted
  intro k t i s working told decided disposition role kind body active
  have run := exec_supervisedOrder working decided (supervisedBy_sectionClose disposition role kind)
  refine ⟨fun mode live => ?_, fun mode dead allowed => ?_, fun mode live => ?_⟩
  · have judged := State.judgeClose_live active live true
    have closed : (Ev.start s).sectionClose i = (Ev.start s, .done) := by
      rw [Ev.sectionClose, Ev.start_s, judged]
      rfl
    rw [run, if_neg mode, Ev.convert_sectionClose body closed]
    exact congrArg _ (Ev.between_answer_finish_of_traffic (s := s) (t := s.countConsumed .control) told rfl rfl rfl
      rfl rfl _ _)
  · have judged := State.judgeClose_allowed active dead mode allowed
    obtain ⟨-, -, -, seen, -⟩ := State.judgeClose_accepted judged
    have position : s.station.position = .closed := by
      simp only [State.closeAllowed, Bool.and_eq_true, beq_iff_eq] at allowed
      exact allowed.1.1.2
    have closed := Ev.sectionClose_of_accepted (e := Ev.start s) judged position
    rw [run, if_neg mode, Ev.convert_sectionClose body closed]
    have moves := State.convertsClose_moves (s := s) (i := i)
    have writes := State.convertsClose_eq (s := s) (i := i) mode
    obtain ⟨m, hm⟩ : ∃ m, m = ((Ev.start s).mod fun s => ((s.queueOrder (.sec i) .close).setPending i
      (some (s.order .close .command none false))).setSec i .closing .commandedClose).s.telegram t.src kCommandResult
        [0, 0x01, Result.accepted.code] := ⟨_, rfl⟩
    rw [← hm]
    have quiet := State.BlindSettled.blindPass (s := s) (e := (Ev.between s (s.convertsClose i)).answer .control m)
      (moves.settled (congrArg State.mode writes :) (.inl (.inl seen))) rfl rfl
    have told' : (s.convertsClose i).SuppliesTold :=
      told.of_live (congrArg State.tables writes :) (congrArg State.points writes :) fun j => by
        by_cases own : j = i
        · rw [own, moves.ctl, dead]
          exact ⟨nofun, nofun⟩
        · rw [moves.others j own]
    have atEnd := Ev.finish_endsAs quiet
    have moved := moves.ends atEnd
    have done : (((Ev.start s).mod fun s => ((s.queueOrder (.sec i) .close).setPending i
        (some (s.order .close .command none false))).setSec i .closing .commandedClose).mod fun s =>
          s.countConsumed .control).answer .control m = (Ev.between s (s.convertsClose i)).answer .control m := rfl
    rw [done]
    exact ⟨_, rfl, moved.ctl, moved.others, atEnd.station.trans (congrArg State.station writes :),
      (Ev.finish_points quiet told' rfl).trans (congrArg State.points writes :),
      atEnd.incidents.trans (congrArg State.incidents writes :), atEnd.vehicles.trans (congrArg State.vehicles writes :),
      atEnd.background.trans (congrArg State.background writes :),
      atEnd.urgent.trans (congrArg (fun u : State => u.fieldPort.urgent) writes :)⟩
  · rw [run, if_pos mode, Ev.advise_live active live body]
    have passed := Ev.between_finish_of_traffic (s := s) (t := s.forward .control (s.tables.binding[k].rewritten t)) told
      rfl rfl rfl rfl rfl
    rw [Binding.rewritten_eq] at passed
    exact congrArg _ ((congrArg Ev.finish (by rw [← Binding.rewritten_eq]; rfl)).trans passed)

end
